-- ==== Sys2Proof/Word.lean ====
section
/-! DEFINITION. The two word types of the core (R5): the byte, width of A, X, Y, SP and of every
data value, and the 16-bit word, width of PC and of every address. -/

namespace Sys2Proof

/-- A byte, 0..255 (R5 `XLEN`, R6). -/
abbrev Byte := BitVec 8

/-- A 16-bit word, 0..65535: the program counter and every address (R5 `ALEN`, R6). -/
abbrev Word := BitVec 16

end Sys2Proof
end

