-- ==== Sys2Proof/Decode.lean ====
section
/-! DEFINITION. The instruction table (R55, R57), the decoder over bytes, total and refusing by name (R53,
R58), and the encoder (R51, R54). -/

namespace Sys2Proof

/-- The 16-bit value `{hi, lo}` (R6, R33). -/
def wordOf (hi lo : Byte) : Word := hi ++ lo

/-- Bits 7..0 of a word. -/
def lowByte (w : Word) : Byte := w.extractLsb' 0 8

/-- Bits 15..8 of a word. -/
def highByte (w : Word) : Byte := w.extractLsb' 8 8

/-- The three formats (R51): how a row's operand bytes become its instruction (R54). -/
inductive Form where
  | f1 (i : Instr)
  | f2 (mk : Byte → Instr)
  | f3 (mk : Word → Instr)

/-- One row of the instruction table: an instruction descriptor with its opcode byte (R55). `cycles` is
the advisory cycle count, which nothing reads (R61). -/
structure Row where
  opcode : Nat
  mnemonic : Mnemonic
  mode : Mode
  cycles : Nat
  form : Form

/-- The rows of opcode bytes 0x00 to 0x0F (R57). -/
def rows0x : List Row :=
  [⟨0x00, .brk, .imp, 7, .f1 .brk⟩,
   ⟨0x01, .ora, .indx, 6, .f2 .oraIndx⟩,
   ⟨0x05, .ora, .zp, 3, .f2 .oraZp⟩,
   ⟨0x06, .asl, .zp, 5, .f2 .aslZp⟩,
   ⟨0x08, .php, .imp, 3, .f1 .php⟩,
   ⟨0x09, .ora, .imm, 2, .f2 .oraImm⟩,
   ⟨0x0A, .asl, .acc, 2, .f1 .aslAcc⟩,
   ⟨0x0D, .ora, .abs, 4, .f3 .oraAbs⟩,
   ⟨0x0E, .asl, .abs, 6, .f3 .aslAbs⟩]

/-- The rows of opcode bytes 0x10 to 0x1F (R57). -/
def rows1x : List Row :=
  [⟨0x10, .bpl, .rel, 2, .f2 .bpl⟩,
   ⟨0x11, .ora, .indy, 5, .f2 .oraIndy⟩,
   ⟨0x15, .ora, .zpx, 4, .f2 .oraZpx⟩,
   ⟨0x16, .asl, .zpx, 6, .f2 .aslZpx⟩,
   ⟨0x18, .clc, .imp, 2, .f1 .clc⟩,
   ⟨0x19, .ora, .absy, 4, .f3 .oraAbsy⟩,
   ⟨0x1D, .ora, .absx, 4, .f3 .oraAbsx⟩,
   ⟨0x1E, .asl, .absx, 7, .f3 .aslAbsx⟩]

/-- The rows of opcode bytes 0x20 to 0x2F (R57). -/
def rows2x : List Row :=
  [⟨0x20, .jsr, .abs, 6, .f3 .jsr⟩,
   ⟨0x21, .and, .indx, 6, .f2 .andIndx⟩,
   ⟨0x24, .bit, .zp, 3, .f2 .bitZp⟩,
   ⟨0x25, .and, .zp, 3, .f2 .andZp⟩,
   ⟨0x26, .rol, .zp, 5, .f2 .rolZp⟩,
   ⟨0x28, .plp, .imp, 4, .f1 .plp⟩,
   ⟨0x29, .and, .imm, 2, .f2 .andImm⟩,
   ⟨0x2A, .rol, .acc, 2, .f1 .rolAcc⟩,
   ⟨0x2C, .bit, .abs, 4, .f3 .bitAbs⟩,
   ⟨0x2D, .and, .abs, 4, .f3 .andAbs⟩,
   ⟨0x2E, .rol, .abs, 6, .f3 .rolAbs⟩]

/-- The rows of opcode bytes 0x30 to 0x3F (R57). -/
def rows3x : List Row :=
  [⟨0x30, .bmi, .rel, 2, .f2 .bmi⟩,
   ⟨0x31, .and, .indy, 5, .f2 .andIndy⟩,
   ⟨0x35, .and, .zpx, 4, .f2 .andZpx⟩,
   ⟨0x36, .rol, .zpx, 6, .f2 .rolZpx⟩,
   ⟨0x38, .sec, .imp, 2, .f1 .sec⟩,
   ⟨0x39, .and, .absy, 4, .f3 .andAbsy⟩,
   ⟨0x3D, .and, .absx, 4, .f3 .andAbsx⟩,
   ⟨0x3E, .rol, .absx, 7, .f3 .rolAbsx⟩]

/-- The rows of opcode bytes 0x40 to 0x4F (R57). -/
def rows4x : List Row :=
  [⟨0x40, .rti, .imp, 6, .f1 .rti⟩,
   ⟨0x41, .eor, .indx, 6, .f2 .eorIndx⟩,
   ⟨0x45, .eor, .zp, 3, .f2 .eorZp⟩,
   ⟨0x46, .lsr, .zp, 5, .f2 .lsrZp⟩,
   ⟨0x48, .pha, .imp, 3, .f1 .pha⟩,
   ⟨0x49, .eor, .imm, 2, .f2 .eorImm⟩,
   ⟨0x4A, .lsr, .acc, 2, .f1 .lsrAcc⟩,
   ⟨0x4C, .jmp, .abs, 3, .f3 .jmpAbs⟩,
   ⟨0x4D, .eor, .abs, 4, .f3 .eorAbs⟩,
   ⟨0x4E, .lsr, .abs, 6, .f3 .lsrAbs⟩]

/-- The rows of opcode bytes 0x50 to 0x5F (R57). -/
def rows5x : List Row :=
  [⟨0x50, .bvc, .rel, 2, .f2 .bvc⟩,
   ⟨0x51, .eor, .indy, 5, .f2 .eorIndy⟩,
   ⟨0x55, .eor, .zpx, 4, .f2 .eorZpx⟩,
   ⟨0x56, .lsr, .zpx, 6, .f2 .lsrZpx⟩,
   ⟨0x58, .cli, .imp, 2, .f1 .cli⟩,
   ⟨0x59, .eor, .absy, 4, .f3 .eorAbsy⟩,
   ⟨0x5D, .eor, .absx, 4, .f3 .eorAbsx⟩,
   ⟨0x5E, .lsr, .absx, 7, .f3 .lsrAbsx⟩]

/-- The rows of opcode bytes 0x60 to 0x6F (R57). -/
def rows6x : List Row :=
  [⟨0x60, .rts, .imp, 6, .f1 .rts⟩,
   ⟨0x61, .adc, .indx, 6, .f2 .adcIndx⟩,
   ⟨0x65, .adc, .zp, 3, .f2 .adcZp⟩,
   ⟨0x66, .ror, .zp, 5, .f2 .rorZp⟩,
   ⟨0x68, .pla, .imp, 4, .f1 .pla⟩,
   ⟨0x69, .adc, .imm, 2, .f2 .adcImm⟩,
   ⟨0x6A, .ror, .acc, 2, .f1 .rorAcc⟩,
   ⟨0x6C, .jmp, .ind, 5, .f3 .jmpInd⟩,
   ⟨0x6D, .adc, .abs, 4, .f3 .adcAbs⟩,
   ⟨0x6E, .ror, .abs, 6, .f3 .rorAbs⟩]

/-- The rows of opcode bytes 0x70 to 0x7F (R57). -/
def rows7x : List Row :=
  [⟨0x70, .bvs, .rel, 2, .f2 .bvs⟩,
   ⟨0x71, .adc, .indy, 5, .f2 .adcIndy⟩,
   ⟨0x75, .adc, .zpx, 4, .f2 .adcZpx⟩,
   ⟨0x76, .ror, .zpx, 6, .f2 .rorZpx⟩,
   ⟨0x78, .sei, .imp, 2, .f1 .sei⟩,
   ⟨0x79, .adc, .absy, 4, .f3 .adcAbsy⟩,
   ⟨0x7D, .adc, .absx, 4, .f3 .adcAbsx⟩,
   ⟨0x7E, .ror, .absx, 7, .f3 .rorAbsx⟩]

/-- The rows of opcode bytes 0x80 to 0x8F (R57). -/
def rows8x : List Row :=
  [⟨0x81, .sta, .indx, 6, .f2 .staIndx⟩,
   ⟨0x84, .sty, .zp, 3, .f2 .styZp⟩,
   ⟨0x85, .sta, .zp, 3, .f2 .staZp⟩,
   ⟨0x86, .stx, .zp, 3, .f2 .stxZp⟩,
   ⟨0x88, .dey, .imp, 2, .f1 .dey⟩,
   ⟨0x8A, .txa, .imp, 2, .f1 .txa⟩,
   ⟨0x8C, .sty, .abs, 4, .f3 .styAbs⟩,
   ⟨0x8D, .sta, .abs, 4, .f3 .staAbs⟩,
   ⟨0x8E, .stx, .abs, 4, .f3 .stxAbs⟩]

/-- The rows of opcode bytes 0x90 to 0x9F (R57). -/
def rows9x : List Row :=
  [⟨0x90, .bcc, .rel, 2, .f2 .bcc⟩,
   ⟨0x91, .sta, .indy, 6, .f2 .staIndy⟩,
   ⟨0x94, .sty, .zpx, 4, .f2 .styZpx⟩,
   ⟨0x95, .sta, .zpx, 4, .f2 .staZpx⟩,
   ⟨0x96, .stx, .zpy, 4, .f2 .stxZpy⟩,
   ⟨0x98, .tya, .imp, 2, .f1 .tya⟩,
   ⟨0x99, .sta, .absy, 5, .f3 .staAbsy⟩,
   ⟨0x9A, .txs, .imp, 2, .f1 .txs⟩,
   ⟨0x9D, .sta, .absx, 5, .f3 .staAbsx⟩]

/-- The rows of opcode bytes 0xA0 to 0xAF (R57). -/
def rowsAx : List Row :=
  [⟨0xA0, .ldy, .imm, 2, .f2 .ldyImm⟩,
   ⟨0xA1, .lda, .indx, 6, .f2 .ldaIndx⟩,
   ⟨0xA2, .ldx, .imm, 2, .f2 .ldxImm⟩,
   ⟨0xA4, .ldy, .zp, 3, .f2 .ldyZp⟩,
   ⟨0xA5, .lda, .zp, 3, .f2 .ldaZp⟩,
   ⟨0xA6, .ldx, .zp, 3, .f2 .ldxZp⟩,
   ⟨0xA8, .tay, .imp, 2, .f1 .tay⟩,
   ⟨0xA9, .lda, .imm, 2, .f2 .ldaImm⟩,
   ⟨0xAA, .tax, .imp, 2, .f1 .tax⟩,
   ⟨0xAC, .ldy, .abs, 4, .f3 .ldyAbs⟩,
   ⟨0xAD, .lda, .abs, 4, .f3 .ldaAbs⟩,
   ⟨0xAE, .ldx, .abs, 4, .f3 .ldxAbs⟩]

/-- The rows of opcode bytes 0xB0 to 0xBF (R57). -/
def rowsBx : List Row :=
  [⟨0xB0, .bcs, .rel, 2, .f2 .bcs⟩,
   ⟨0xB1, .lda, .indy, 5, .f2 .ldaIndy⟩,
   ⟨0xB4, .ldy, .zpx, 4, .f2 .ldyZpx⟩,
   ⟨0xB5, .lda, .zpx, 4, .f2 .ldaZpx⟩,
   ⟨0xB6, .ldx, .zpy, 4, .f2 .ldxZpy⟩,
   ⟨0xB8, .clv, .imp, 2, .f1 .clv⟩,
   ⟨0xB9, .lda, .absy, 4, .f3 .ldaAbsy⟩,
   ⟨0xBA, .tsx, .imp, 2, .f1 .tsx⟩,
   ⟨0xBC, .ldy, .absx, 4, .f3 .ldyAbsx⟩,
   ⟨0xBD, .lda, .absx, 4, .f3 .ldaAbsx⟩,
   ⟨0xBE, .ldx, .absy, 4, .f3 .ldxAbsy⟩]

/-- The rows of opcode bytes 0xC0 to 0xCF (R57). -/
def rowsCx : List Row :=
  [⟨0xC0, .cpy, .imm, 2, .f2 .cpyImm⟩,
   ⟨0xC1, .cmp, .indx, 6, .f2 .cmpIndx⟩,
   ⟨0xC4, .cpy, .zp, 3, .f2 .cpyZp⟩,
   ⟨0xC5, .cmp, .zp, 3, .f2 .cmpZp⟩,
   ⟨0xC6, .dec, .zp, 5, .f2 .decZp⟩,
   ⟨0xC8, .iny, .imp, 2, .f1 .iny⟩,
   ⟨0xC9, .cmp, .imm, 2, .f2 .cmpImm⟩,
   ⟨0xCA, .dex, .imp, 2, .f1 .dex⟩,
   ⟨0xCC, .cpy, .abs, 4, .f3 .cpyAbs⟩,
   ⟨0xCD, .cmp, .abs, 4, .f3 .cmpAbs⟩,
   ⟨0xCE, .dec, .abs, 6, .f3 .decAbs⟩]

/-- The rows of opcode bytes 0xD0 to 0xDF (R57). -/
def rowsDx : List Row :=
  [⟨0xD0, .bne, .rel, 2, .f2 .bne⟩,
   ⟨0xD1, .cmp, .indy, 5, .f2 .cmpIndy⟩,
   ⟨0xD5, .cmp, .zpx, 4, .f2 .cmpZpx⟩,
   ⟨0xD6, .dec, .zpx, 6, .f2 .decZpx⟩,
   ⟨0xD8, .cld, .imp, 2, .f1 .cld⟩,
   ⟨0xD9, .cmp, .absy, 4, .f3 .cmpAbsy⟩,
   ⟨0xDD, .cmp, .absx, 4, .f3 .cmpAbsx⟩,
   ⟨0xDE, .dec, .absx, 7, .f3 .decAbsx⟩]

/-- The rows of opcode bytes 0xE0 to 0xEF (R57). -/
def rowsEx : List Row :=
  [⟨0xE0, .cpx, .imm, 2, .f2 .cpxImm⟩,
   ⟨0xE1, .sbc, .indx, 6, .f2 .sbcIndx⟩,
   ⟨0xE4, .cpx, .zp, 3, .f2 .cpxZp⟩,
   ⟨0xE5, .sbc, .zp, 3, .f2 .sbcZp⟩,
   ⟨0xE6, .inc, .zp, 5, .f2 .incZp⟩,
   ⟨0xE8, .inx, .imp, 2, .f1 .inx⟩,
   ⟨0xE9, .sbc, .imm, 2, .f2 .sbcImm⟩,
   ⟨0xEA, .nop, .imp, 2, .f1 .nop⟩,
   ⟨0xEC, .cpx, .abs, 4, .f3 .cpxAbs⟩,
   ⟨0xED, .sbc, .abs, 4, .f3 .sbcAbs⟩,
   ⟨0xEE, .inc, .abs, 6, .f3 .incAbs⟩]

/-- The rows of opcode bytes 0xF0 to 0xFF (R57). -/
def rowsFx : List Row :=
  [⟨0xF0, .beq, .rel, 2, .f2 .beq⟩,
   ⟨0xF1, .sbc, .indy, 5, .f2 .sbcIndy⟩,
   ⟨0xF5, .sbc, .zpx, 4, .f2 .sbcZpx⟩,
   ⟨0xF6, .inc, .zpx, 6, .f2 .incZpx⟩,
   ⟨0xF8, .sed, .imp, 2, .f1 .sed⟩,
   ⟨0xF9, .sbc, .absy, 4, .f3 .sbcAbsy⟩,
   ⟨0xFD, .sbc, .absx, 4, .f3 .sbcAbsx⟩,
   ⟨0xFE, .inc, .absx, 7, .f3 .incAbsx⟩]

/-- The rows of the opcode map with a high nibble: one row of the map of R57. -/
def rowsOf : Nat → List Row
  | 0x0 => rows0x | 0x1 => rows1x | 0x2 => rows2x | 0x3 => rows3x
  | 0x4 => rows4x | 0x5 => rows5x | 0x6 => rows6x | 0x7 => rows7x
  | 0x8 => rows8x | 0x9 => rows9x | 0xA => rowsAx | 0xB => rowsBx
  | 0xC => rowsCx | 0xD => rowsDx | 0xE => rowsEx | 0xF => rowsFx
  | _ => []

/-- The instruction table: 151 rows in the order of their opcode bytes (R57). A byte without a row is an
unknown opcode (R58). -/
def opcodeTable : List Row := (List.range 16).flatMap rowsOf

/-- The row of an opcode number in a list of rows, if there is one. -/
def findRow (n : Nat) : List Row → Option Row
  | [] => none
  | r :: rest => bif Nat.beq r.opcode n then some r else findRow n rest

/-- The 256-entry lookup by the opcode byte (R55, R91): the high nibble chooses the map's row. -/
def lookup (opc : Byte) : Option Row := findRow opc.toNat (rowsOf (opc.toNat / 16))

/-- Why a byte sequence is no instruction. -/
inductive DecodeError where
  /-- The first byte has no row in the table (R58). -/
  | unknownOpcode (opc : Byte)
  /-- The sequence ends before the instruction does (R50). -/
  | truncated
  deriving DecidableEq, Repr

/-- Read a row's operand bytes from the bytes after the opcode (R51, R54): the instruction and the bytes
that follow it. -/
def Form.read : Form → List Byte → Except DecodeError (Instr × List Byte)
  | .f1 i, rest => .ok (i, rest)
  | .f2 mk, b1 :: rest => .ok (mk b1, rest)
  | .f3 mk, b1 :: b2 :: rest => .ok (mk (wordOf b2 b1), rest)
  | _, _ => .error .truncated

/-- The decoder (R53): look the first byte up, then read the operand bytes its format has; the answer is
the instruction and the bytes after it, or why there is none. -/
def decode : List Byte → Except DecodeError (Instr × List Byte)
  | [] => .error .truncated
  | opc :: rest =>
    match lookup opc with
    | none => .error (.unknownOpcode opc)
    | some r => r.form.read rest

/-- The instruction at the head of three bytes, the most an instruction has (R50); none exactly for an
unknown opcode. -/
def decodeBytes (opc b1 b2 : Byte) : Option Instr :=
  match decode [opc, b1, b2] with
  | .ok (i, _) => some i
  | .error _ => none

/-- The instruction whose bits are `w`, bit 0 being bit 0 of the first byte (R51), every bit from `nbits`
on taken as 0. -/
def decodeTableWord (nbits w : Nat) : Option Instr :=
  let v := w % 2 ^ nbits
  decodeBytes (BitVec.ofNat 8 v) (BitVec.ofNat 8 (v / 256)) (BitVec.ofNat 8 (v / 65536))

/-- The opcode byte of an instruction (R57). -/
def Instr.opcode : Instr → Byte
  | .adcImm _ => 0x69
  | .adcZp _ => 0x65
  | .adcZpx _ => 0x75
  | .adcAbs _ => 0x6D
  | .adcAbsx _ => 0x7D
  | .adcAbsy _ => 0x79
  | .adcIndx _ => 0x61
  | .adcIndy _ => 0x71
  | .sbcImm _ => 0xE9
  | .sbcZp _ => 0xE5
  | .sbcZpx _ => 0xF5
  | .sbcAbs _ => 0xED
  | .sbcAbsx _ => 0xFD
  | .sbcAbsy _ => 0xF9
  | .sbcIndx _ => 0xE1
  | .sbcIndy _ => 0xF1
  | .cmpImm _ => 0xC9
  | .cmpZp _ => 0xC5
  | .cmpZpx _ => 0xD5
  | .cmpAbs _ => 0xCD
  | .cmpAbsx _ => 0xDD
  | .cmpAbsy _ => 0xD9
  | .cmpIndx _ => 0xC1
  | .cmpIndy _ => 0xD1
  | .cpxImm _ => 0xE0
  | .cpxZp _ => 0xE4
  | .cpxAbs _ => 0xEC
  | .cpyImm _ => 0xC0
  | .cpyZp _ => 0xC4
  | .cpyAbs _ => 0xCC
  | .andImm _ => 0x29
  | .andZp _ => 0x25
  | .andZpx _ => 0x35
  | .andAbs _ => 0x2D
  | .andAbsx _ => 0x3D
  | .andAbsy _ => 0x39
  | .andIndx _ => 0x21
  | .andIndy _ => 0x31
  | .oraImm _ => 0x09
  | .oraZp _ => 0x05
  | .oraZpx _ => 0x15
  | .oraAbs _ => 0x0D
  | .oraAbsx _ => 0x1D
  | .oraAbsy _ => 0x19
  | .oraIndx _ => 0x01
  | .oraIndy _ => 0x11
  | .eorImm _ => 0x49
  | .eorZp _ => 0x45
  | .eorZpx _ => 0x55
  | .eorAbs _ => 0x4D
  | .eorAbsx _ => 0x5D
  | .eorAbsy _ => 0x59
  | .eorIndx _ => 0x41
  | .eorIndy _ => 0x51
  | .bitZp _ => 0x24
  | .bitAbs _ => 0x2C
  | .aslAcc => 0x0A
  | .aslZp _ => 0x06
  | .aslZpx _ => 0x16
  | .aslAbs _ => 0x0E
  | .aslAbsx _ => 0x1E
  | .lsrAcc => 0x4A
  | .lsrZp _ => 0x46
  | .lsrZpx _ => 0x56
  | .lsrAbs _ => 0x4E
  | .lsrAbsx _ => 0x5E
  | .rolAcc => 0x2A
  | .rolZp _ => 0x26
  | .rolZpx _ => 0x36
  | .rolAbs _ => 0x2E
  | .rolAbsx _ => 0x3E
  | .rorAcc => 0x6A
  | .rorZp _ => 0x66
  | .rorZpx _ => 0x76
  | .rorAbs _ => 0x6E
  | .rorAbsx _ => 0x7E
  | .bcc _ => 0x90
  | .bcs _ => 0xB0
  | .beq _ => 0xF0
  | .bne _ => 0xD0
  | .bmi _ => 0x30
  | .bpl _ => 0x10
  | .bvc _ => 0x50
  | .bvs _ => 0x70
  | .jmpAbs _ => 0x4C
  | .jmpInd _ => 0x6C
  | .jsr _ => 0x20
  | .rts => 0x60
  | .clc => 0x18
  | .cld => 0xD8
  | .cli => 0x58
  | .clv => 0xB8
  | .sec => 0x38
  | .sed => 0xF8
  | .sei => 0x78
  | .ldaImm _ => 0xA9
  | .ldaZp _ => 0xA5
  | .ldaZpx _ => 0xB5
  | .ldaAbs _ => 0xAD
  | .ldaAbsx _ => 0xBD
  | .ldaAbsy _ => 0xB9
  | .ldaIndx _ => 0xA1
  | .ldaIndy _ => 0xB1
  | .ldxImm _ => 0xA2
  | .ldxZp _ => 0xA6
  | .ldxZpy _ => 0xB6
  | .ldxAbs _ => 0xAE
  | .ldxAbsy _ => 0xBE
  | .ldyImm _ => 0xA0
  | .ldyZp _ => 0xA4
  | .ldyZpx _ => 0xB4
  | .ldyAbs _ => 0xAC
  | .ldyAbsx _ => 0xBC
  | .staZp _ => 0x85
  | .staZpx _ => 0x95
  | .staAbs _ => 0x8D
  | .staAbsx _ => 0x9D
  | .staAbsy _ => 0x99
  | .staIndx _ => 0x81
  | .staIndy _ => 0x91
  | .stxZp _ => 0x86
  | .stxZpy _ => 0x96
  | .stxAbs _ => 0x8E
  | .styZp _ => 0x84
  | .styZpx _ => 0x94
  | .styAbs _ => 0x8C
  | .tax => 0xAA
  | .tay => 0xA8
  | .txa => 0x8A
  | .tya => 0x98
  | .tsx => 0xBA
  | .txs => 0x9A
  | .incZp _ => 0xE6
  | .incZpx _ => 0xF6
  | .incAbs _ => 0xEE
  | .incAbsx _ => 0xFE
  | .decZp _ => 0xC6
  | .decZpx _ => 0xD6
  | .decAbs _ => 0xCE
  | .decAbsx _ => 0xDE
  | .inx => 0xE8
  | .iny => 0xC8
  | .dex => 0xCA
  | .dey => 0x88
  | .pha => 0x48
  | .php => 0x08
  | .pla => 0x68
  | .plp => 0x28
  | .brk => 0x00
  | .rti => 0x40
  | .nop => 0xEA

/-- The operand byte or bytes of a memory operand, low byte first (R51, R54). -/
def MemMode.bytes : MemMode → List Byte
  | .zp b | .zpx b | .zpy b | .indx b | .indy b => [b]
  | .abs w | .absx w | .absy w | .ind w => [lowByte w, highByte w]

/-- The operand bytes of an operand (R51, R54). -/
def Operand.bytes : Operand → List Byte
  | .imp | .acc => []
  | .imm b | .rel b => [b]
  | .mem m => m.bytes

/-- The encoder: the bytes of an instruction, the opcode first (R51). -/
def encode (i : Instr) : List Byte := i.opcode :: i.operand.bytes

end Sys2Proof
end

