-- ==== Sys2Proof/Config.lean ====
section
/-! DEFINITION. What is fixed for the machine and is not state (R5), and the components of the launch
state that the host supplies (R29, R250), at the values `State.reset` gives them. The spec leaves no
result of an instruction open, so there is no free value here. -/

namespace Sys2Proof

/-- `MEMSIZE` (R5, R30): the addresses are 0x0000 to 0xFFFF. -/
def Config.memSize : Nat := 65536

/-- DESIGN CHOICE (unsafe, log 2): what A, X, Y and SP hold in `State.reset`. R29 states no value: the
launch state is the host's. -/
def Config.launchByte : Byte := 0

/-- DESIGN CHOICE (unsafe, log 2): what PC holds in `State.reset`. R29: `LAUNCH.PC`, unspecified if the
host chose none. -/
def Config.launchPc : Word := 0

/-- DESIGN CHOICE (unsafe, log 2): what each of the seven flags holds in `State.reset` (R29). -/
def Config.launchFlag : Bool := false

end Sys2Proof
end

