-- ==== Sys2Proof/Machine/State.lean ====
section
/-! DEFINITION. The state of the core, the outcomes of a step, and the state after reset. -/

namespace Sys2Proof.Machine

/-- Memory: the listed bytes, addresses strictly rising, every unlisted address reading as
`Memory.unlisted` (Sys2Proof/Machine/Ops.lean; the form is `Memory.wf`). -/
abbrev Memory := List Host.Cell

/-- The whole state of one core: the tuple at the head of spec/10_state.md, and nothing else (R26). -/
structure State where
  /-- A, the accumulator (R10). -/
  a : Byte
  /-- X, an index register (R10). -/
  x : Byte
  /-- Y, an index register (R10). -/
  y : Byte
  /-- SP, the stack pointer: the low byte of the address of the next free stack byte (R12, R14). -/
  sp : Byte
  /-- PC, the program counter: the address of the next opcode byte (R15). -/
  pc : Word
  /-- N, Negative (R17). -/
  flagN : Bool
  /-- V, Overflow (R18). -/
  flagV : Bool
  /-- B, Break: a stored flag that BRK sets and no instruction reads (R19, C4). -/
  flagB : Bool
  /-- D, Decimal: stored, without effect on arithmetic (R20). -/
  flagD : Bool
  /-- I, Interrupt-disable: stored, masks nothing (R21). -/
  flagI : Bool
  /-- Z, Zero (R22). -/
  flagZ : Bool
  /-- C, Carry (R23). -/
  flagC : Bool
  /-- The 65536 bytes of memory (R30). -/
  mem : Memory
  deriving DecidableEq, Repr

/-- Why a step stops with a fault. -/
inductive Fault where
  /-- Raised by `step`'s fetch when the byte `opc` at PC, whose address is `pc`, has no row in the
  instruction table (R91, R221). Safe: it is the spec's own outcome and changes nothing. -/
  | unknownOpcode (pc : Word) (opc : Byte)
  deriving DecidableEq, Repr

/-- Why a step refuses. -/
inductive Refusal where
  /-- Raised by an arm of `exec` for an instruction without a meaning (`NotImplemented`, R222). Safe. Every
  instruction has its meaning, so nothing raises it. -/
  | notModelled (mnemonic : String)
  deriving DecidableEq, Repr

/-- What an instruction or a step answers (R95). -/
abbrev Result := Host.Outcome State Fault Refusal

/-- The state after reset. The spec states no value for any component (R29, R250): the registers and flags
are the DESIGN CHOICES of Config (unsafe, log 2), and no byte of memory is listed (log 1). Every other
state is a launch state too; claims quantify over them. -/
def State.reset : State where
  a := Config.launchByte
  x := Config.launchByte
  y := Config.launchByte
  sp := Config.launchByte
  pc := Config.launchPc
  flagN := Config.launchFlag
  flagV := Config.launchFlag
  flagB := Config.launchFlag
  flagD := Config.launchFlag
  flagI := Config.launchFlag
  flagZ := Config.launchFlag
  flagC := Config.launchFlag
  mem := []

end Sys2Proof.Machine
end

