-- ==== Sys2Proof/Machine/Flags.lean ====
section
/-! DEFINITION. The flag computations of the handlers and the status byte P. -/

namespace Sys2Proof.Machine

/-- `n2b(v[k])`: bit k of a byte as a flag (R6). -/
def bitOf (v : Byte) (k : Nat) : Bool := v.getLsbD k

/-- `b2n(f) << k` as a byte (R6). -/
def flagByte (f : Bool) (k : Nat) : Byte := BitVec.ofNat 8 f.toNat <<< k

/-- `SetNZ(v)` (R7). -/
def State.setNZ (s : State) (v : Byte) : State :=
  { s with flagN := bitOf v 7, flagZ := v == 0 }

/-- The addition of ADC (R110), with the operand M; SBC is the same addition of the complement (R111). -/
def State.addWithCarry (s : State) (m : Byte) : State :=
  let sum := s.a.toNat + m.toNat + s.flagC.toNat
  let res : Byte := BitVec.ofNat 8 sum
  { s.setNZ res with
    a := res
    flagC := decide (256 ≤ sum)
    flagV := (s.a ^^^ res) &&& (m ^^^ res) &&& 0x80 != 0 }

/-- The comparison of CMP, CPX, CPY (R112 to R114) of the register value `r` with the operand M. -/
def State.compare (s : State) (r m : Byte) : State :=
  { s.setNZ (r - m) with flagC := decide (m.toNat ≤ r.toNat) }

/-- `PackP()` (R24): N V 1 1 D I Z C from bit 7 to bit 0; B is not read (R19). -/
def State.packP (s : State) : Byte :=
  flagByte s.flagN 7 ||| flagByte s.flagV 6 ||| flagByte true 5 ||| flagByte true 4 |||
    flagByte s.flagD 3 ||| flagByte s.flagI 2 ||| flagByte s.flagZ 1 ||| flagByte s.flagC 0

/-- `UnpackP(p)` (R24): bits 5 and 4 are ignored and B is not written (R19). -/
def State.unpackP (s : State) (p : Byte) : State :=
  { s with
    flagN := bitOf p 7
    flagV := bitOf p 6
    flagD := bitOf p 3
    flagI := bitOf p 2
    flagZ := bitOf p 1
    flagC := bitOf p 0 }

end Sys2Proof.Machine
end

