-- ==== Sys2Proof/Machine/Ops.lean ====
section
/-! DEFINITION. The operations over memory and registers that the handlers share: memory reads and writes
(R31 to R36), the stack (R14), register loads, the write-back (R8), the handler's signal and Advance (R93,
R94), the software trap and its return (R229, R230), and the fetch (R91). -/

namespace Sys2Proof.Machine

/-! ## Memory -/

/-- DESIGN CHOICE (unsafe, log 1): what an address reads as that the memory does not list. The spec gives
no content to a byte the host never loaded (R29, U2). -/
def Memory.unlisted : Byte := 0

/-- The canonical form from address `lo` on: addresses strictly rising and inside the address space, no
entry equal to what an unlisted address reads as. -/
def Memory.wfFrom (lo : Nat) : Memory → Bool
  | [] => true
  | (k, v) :: rest =>
    decide (lo ≤ k) && decide (k < Config.memSize) && v != Memory.unlisted &&
      Memory.wfFrom (k + 1) rest

/-- The canonical form of a memory. -/
def Memory.wf (m : Memory) : Bool := Memory.wfFrom 0 m

/-- The byte at an address (R31). -/
def Memory.read : Memory → Nat → Byte
  | [], _ => Memory.unlisted
  | (k, v) :: rest, a => if k = a then v else Memory.read rest a

/-- A memory without its entries at an address. -/
def Memory.erase : Memory → Nat → Memory
  | [], _ => []
  | (k, v) :: rest, a => if k = a then Memory.erase rest a else (k, v) :: Memory.erase rest a

/-- A memory with an entry put before the first entry of a higher address. -/
def Memory.insert : Memory → Nat → Byte → Memory
  | [], a, v => [(a, v)]
  | (k, w) :: rest, a, v =>
    if a < k then (a, v) :: (k, w) :: rest else (k, w) :: Memory.insert rest a v

/-- Change the byte at an address (R31), keeping the canonical form. -/
def Memory.write (m : Memory) (a : Nat) (v : Byte) : Memory :=
  if v = Memory.unlisted then m.erase a else (m.erase a).insert a v

/-- `MemRead(addr, 1)` (R7, R31): total. -/
def State.read (s : State) (addr : Word) : Byte := s.mem.read addr.toNat

/-- `MemWrite(addr, 1, v)` (R7, R31): total, changes the one byte addressed (R32). -/
def State.write (s : State) (addr : Word) (v : Byte) : State :=
  { s with mem := s.mem.write addr.toNat v }

/-- `MemRead(addr, 2)` (R34): the high byte is at the next address of the 16-bit space. -/
def State.read16 (s : State) (addr : Word) : Word :=
  wordOf (s.read (addr + 1)) (s.read addr)

/-- `zext_16` (R6). -/
def zext16 (v : Byte) : Word := v.setWidth 16

/-- `sext_16` (R6). -/
def sext16 (v : Byte) : Word := v.signExtend 16

/-- `MemReadZP16(zp)` (R35): the high byte's address stays in page 0. -/
def State.readZp16 (s : State) (zp : Byte) : Word :=
  wordOf (s.read (zext16 (zp + 1))) (s.read (zext16 zp))

/-- `MemReadPage16(addr)` (R36): the high byte's address stays in the page of `addr`. -/
def State.readPage16 (s : State) (addr : Word) : Word :=
  wordOf (s.read (addr &&& 0xFF00 ||| (addr + 1) &&& 0x00FF)) (s.read addr)

/-! ## Registers -/

/-- `PC <- target` (R7). -/
def State.setPc (s : State) (target : Word) : State := { s with pc := target }

/-- `x[A] <- v` with `SetNZ(v)`. -/
def State.loadA (s : State) (v : Byte) : State := { s.setNZ v with a := v }

/-- `x[X] <- v` with `SetNZ(v)`. -/
def State.loadX (s : State) (v : Byte) : State := { s.setNZ v with x := v }

/-- `x[Y] <- v` with `SetNZ(v)`. -/
def State.loadY (s : State) (v : Byte) : State := { s.setNZ v with y := v }

/-! ## The stack (R14) -/

/-- `0x0100 + sp`: the stack page's address that SP indexes. -/
def stackAddr (sp : Byte) : Word := wordOf 0x01 sp

/-- `Push(v)`: store at the free byte, then decrement. -/
def State.push (s : State) (v : Byte) : State :=
  { s.write (stackAddr s.sp) v with sp := s.sp - 1 }

/-- `Pull()`: increment, then load. -/
def State.pull (s : State) : Byte × State :=
  let sp' := s.sp + 1
  (s.read (stackAddr sp'), { s with sp := sp' })

/-- Push a 16-bit value, high byte first (R33, R151). -/
def State.pushWord (s : State) (w : Word) : State :=
  (s.push (highByte w)).push (lowByte w)

/-- Pull a 16-bit value, low byte first (R152). -/
def State.pullWord (s : State) : Word × State :=
  let (lo, s1) := s.pull
  let (hi, s2) := s1.pull
  (wordOf hi lo, s2)

/-! ## The write-back (R8) -/

/-- A write-back target other than `None` (R8). -/
inductive Target where
  | acc
  | mem (ea : Word)
  deriving DecidableEq, Repr

/-- `WriteBack(op, v)` (R8). -/
def State.writeBack (s : State) (t : Target) (v : Byte) : State :=
  match t with
  | .acc => { s with a := v }
  | .mem ea => s.write ea v

/-- The common end of the shifts (R130 to R133): C, N, Z, and the result written back. -/
def State.shiftTo (s : State) (t : Target) (res : Byte) (carry : Bool) : State :=
  ({ s.setNZ res with flagC := carry }).writeBack t res

/-! ## The handler's signal and Advance -/

/-- What a handler returns (R93): the state it left, and whether it wrote PC itself. -/
inductive HandlerResult where
  | fallthrough (s : State)
  | retarget (s : State)
  deriving DecidableEq, Repr

/-- Advance (R94): the length is added to PC exactly on `fallthrough`, by the signal and not by
comparing PC. -/
def HandlerResult.advance (length : Nat) : HandlerResult → Result
  | .fallthrough s => .next (s.setPc (s.pc + BitVec.ofNat 16 length))
  | .retarget s => .next s

/-! ## The software trap -/

/-- The BRK vector: low byte at 0xFFFE, high byte at 0xFFFF (R5, R40). -/
def brkVector : Word := 0xFFFE

/-- Entry of the software trap (R204, R229): push PC + 2 high byte first, push P with the old flags, set I
and B, and go to the address the vector holds. -/
def State.trapEntry (s : State) : State :=
  let s1 := s.pushWord (s.pc + 2)
  let s2 := s1.push s1.packP
  let s3 := { s2 with flagI := true, flagB := true }
  s3.setPc (s3.read16 brkVector)

/-- Return from the trap (R205, R230): pull the flags, then PC low and high; B is not restored. -/
def State.trapReturn (s : State) : State :=
  let (p, s1) := s.pull
  let (target, s2) := (s1.unpackP p).pullWord
  s2.setPc target

/-! ## Fetch (R91) -/

/-- The instruction at PC, read byte by byte with 16-bit wrap (R50, R70); none when the opcode byte has no
row. -/
def State.fetch (s : State) : Option Instr :=
  decodeBytes (s.read s.pc) (s.read (s.pc + 1)) (s.read (s.pc + 2))

end Sys2Proof.Machine
end

