-- ==== Sys2Proof/Machine/Operands.lean ====
section
/-! DEFINITION. The addressing-mode resolver (R70 to R86), and the sequence Resolve, Dispatch, Advance of a
step (R90) for each of the ways a handler uses the operand record (R86). -/

namespace Sys2Proof.Machine

/-- The effective address of a memory mode: R73 to R81, with the wraps of R84. -/
def effectiveAddress (s : State) : MemMode → Word
  | .zp b => zext16 b
  | .zpx b => zext16 (b + s.x)
  | .zpy b => zext16 (b + s.y)
  | .abs w => w
  | .absx w => w + zext16 s.x
  | .absy w => w + zext16 s.y
  | .indx b => s.readZp16 (b + s.x)
  | .indy b => s.readZp16 b + zext16 s.y
  | .ind w => s.readPage16 w

/-- `op.val` of a byte-reading operand (R72 to R80). -/
def sourceVal (s : State) : Source → Byte
  | .imm b => b
  | .mem m => s.read (effectiveAddress s m)

/-- `op.val` of a read-modify-write operand (R83, R134). -/
def placeVal (s : State) : Place → Byte
  | .acc => s.a
  | .mem m => s.read (effectiveAddress s m)

/-- `op.wb` of a read-modify-write operand (R85), computed once, before the handler (R134). -/
def placeTarget (s : State) : Place → Target
  | .acc => .acc
  | .mem m => .mem (effectiveAddress s m)

/-- The operand record `op = (val, wb)` (R8); none is `absent` and `None`. -/
structure OperandRecord where
  val : Option Byte
  wb : Option Target
  deriving DecidableEq, Repr

/-- `Resolve(mode, PC)` (R70 to R83), the operand bytes being those of the fetched instruction (log 3). It
writes nothing. -/
def resolve (s : State) : Operand → OperandRecord
  | .imp => ⟨none, none⟩
  | .acc => ⟨some (placeVal s .acc), some (placeTarget s .acc)⟩
  | .imm b => ⟨some (sourceVal s (.imm b)), none⟩
  | .rel d => ⟨some d, none⟩
  | .mem (.ind w) => ⟨none, some (.mem (effectiveAddress s (.ind w)))⟩
  | .mem m => ⟨some (placeVal s (.mem m)), some (placeTarget s (.mem m))⟩

/-- A step of an instruction whose handler uses `op.val` and writes nothing back (R86). -/
def runValue (o : Source) (handler : Byte → State → HandlerResult) (s : State) : Result :=
  (handler (sourceVal s o) s).advance o.operand.mode.length

/-- A step of an instruction whose handler uses `op.val` and writes its result back (R134). -/
def runModify (o : Place) (handler : Target → Byte → State → HandlerResult) (s : State) : Result :=
  (handler (placeTarget s o) (placeVal s o) s).advance o.operand.mode.length

/-- A step of an instruction whose handler uses only `EA(op)`: stores and jumps (R86). -/
def runAddress (m : MemMode) (handler : Word → State → HandlerResult) (s : State) : Result :=
  (handler (effectiveAddress s m) s).advance m.mode.length

/-- A step of an implicit-mode instruction (R71). -/
def runImplied (handler : State → HandlerResult) (s : State) : Result :=
  (handler s).advance Mode.imp.length

/-- A step of a relative-mode instruction, whose handler uses `op.val` as the displacement (R82). -/
def runRelative (d : Byte) (handler : Byte → State → HandlerResult) (s : State) : Result :=
  (handler d s).advance Mode.rel.length

/-- `BranchTarget(PC, d)` (R82): PC is the address of the opcode byte. -/
def branchTarget (pc : Word) (d : Byte) : Word := pc + 2 + sext16 d

/-- `Branch(cond, op)` (R140). -/
def branch (cond : Bool) (d : Byte) (s : State) : HandlerResult :=
  if cond then .retarget (s.setPc (branchTarget s.pc d)) else .fallthrough s

end Sys2Proof.Machine
end

