-- ==== Sys2Proof/Machine/Arithmetic.lean ====
section
/-! DEFINITION. ADC, SBC, CMP, CPX, CPY: the handlers of spec/42_arithmetic_compare.md, and the meaning of each row. -/

namespace Sys2Proof.Machine

/-- ADC (R110): binary whatever D holds (R116). -/
def handleAdc (m : Byte) (s : State) : HandlerResult :=
  .fallthrough (s.addWithCarry m)

/-- `ADC #b` (opcode 0x69; R110, mode R72). -/
def execAdcImm (b : Byte) (s : State) : Result := runValue (.imm b) handleAdc s

/-- `ADC b` (opcode 0x65; R110, mode R73). -/
def execAdcZp (b : Byte) (s : State) : Result := runValue (.mem (.zp b)) handleAdc s

/-- `ADC b,X` (opcode 0x75; R110, mode R74). -/
def execAdcZpx (b : Byte) (s : State) : Result := runValue (.mem (.zpx b)) handleAdc s

/-- `ADC w` (opcode 0x6D; R110, mode R76). -/
def execAdcAbs (w : Word) (s : State) : Result := runValue (.mem (.abs w)) handleAdc s

/-- `ADC w,X` (opcode 0x7D; R110, mode R77). -/
def execAdcAbsx (w : Word) (s : State) : Result := runValue (.mem (.absx w)) handleAdc s

/-- `ADC w,Y` (opcode 0x79; R110, mode R78). -/
def execAdcAbsy (w : Word) (s : State) : Result := runValue (.mem (.absy w)) handleAdc s

/-- `ADC (b,X)` (opcode 0x61; R110, mode R79). -/
def execAdcIndx (b : Byte) (s : State) : Result := runValue (.mem (.indx b)) handleAdc s

/-- `ADC (b),Y` (opcode 0x71; R110, mode R80). -/
def execAdcIndy (b : Byte) (s : State) : Result := runValue (.mem (.indy b)) handleAdc s

/-- SBC (R111): ADC of the one's complement of the operand. -/
def handleSbc (m : Byte) (s : State) : HandlerResult :=
  .fallthrough (s.addWithCarry (m ^^^ 0xFF))

/-- `SBC #b` (opcode 0xE9; R111, mode R72). -/
def execSbcImm (b : Byte) (s : State) : Result := runValue (.imm b) handleSbc s

/-- `SBC b` (opcode 0xE5; R111, mode R73). -/
def execSbcZp (b : Byte) (s : State) : Result := runValue (.mem (.zp b)) handleSbc s

/-- `SBC b,X` (opcode 0xF5; R111, mode R74). -/
def execSbcZpx (b : Byte) (s : State) : Result := runValue (.mem (.zpx b)) handleSbc s

/-- `SBC w` (opcode 0xED; R111, mode R76). -/
def execSbcAbs (w : Word) (s : State) : Result := runValue (.mem (.abs w)) handleSbc s

/-- `SBC w,X` (opcode 0xFD; R111, mode R77). -/
def execSbcAbsx (w : Word) (s : State) : Result := runValue (.mem (.absx w)) handleSbc s

/-- `SBC w,Y` (opcode 0xF9; R111, mode R78). -/
def execSbcAbsy (w : Word) (s : State) : Result := runValue (.mem (.absy w)) handleSbc s

/-- `SBC (b,X)` (opcode 0xE1; R111, mode R79). -/
def execSbcIndx (b : Byte) (s : State) : Result := runValue (.mem (.indx b)) handleSbc s

/-- `SBC (b),Y` (opcode 0xF1; R111, mode R80). -/
def execSbcIndy (b : Byte) (s : State) : Result := runValue (.mem (.indy b)) handleSbc s

/-- CMP (R112). -/
def handleCmp (m : Byte) (s : State) : HandlerResult :=
  .fallthrough (s.compare s.a m)

/-- `CMP #b` (opcode 0xC9; R112, mode R72). -/
def execCmpImm (b : Byte) (s : State) : Result := runValue (.imm b) handleCmp s

/-- `CMP b` (opcode 0xC5; R112, mode R73). -/
def execCmpZp (b : Byte) (s : State) : Result := runValue (.mem (.zp b)) handleCmp s

/-- `CMP b,X` (opcode 0xD5; R112, mode R74). -/
def execCmpZpx (b : Byte) (s : State) : Result := runValue (.mem (.zpx b)) handleCmp s

/-- `CMP w` (opcode 0xCD; R112, mode R76). -/
def execCmpAbs (w : Word) (s : State) : Result := runValue (.mem (.abs w)) handleCmp s

/-- `CMP w,X` (opcode 0xDD; R112, mode R77). -/
def execCmpAbsx (w : Word) (s : State) : Result := runValue (.mem (.absx w)) handleCmp s

/-- `CMP w,Y` (opcode 0xD9; R112, mode R78). -/
def execCmpAbsy (w : Word) (s : State) : Result := runValue (.mem (.absy w)) handleCmp s

/-- `CMP (b,X)` (opcode 0xC1; R112, mode R79). -/
def execCmpIndx (b : Byte) (s : State) : Result := runValue (.mem (.indx b)) handleCmp s

/-- `CMP (b),Y` (opcode 0xD1; R112, mode R80). -/
def execCmpIndy (b : Byte) (s : State) : Result := runValue (.mem (.indy b)) handleCmp s

/-- CPX (R113). -/
def handleCpx (m : Byte) (s : State) : HandlerResult :=
  .fallthrough (s.compare s.x m)

/-- `CPX #b` (opcode 0xE0; R113, mode R72). -/
def execCpxImm (b : Byte) (s : State) : Result := runValue (.imm b) handleCpx s

/-- `CPX b` (opcode 0xE4; R113, mode R73). -/
def execCpxZp (b : Byte) (s : State) : Result := runValue (.mem (.zp b)) handleCpx s

/-- `CPX w` (opcode 0xEC; R113, mode R76). -/
def execCpxAbs (w : Word) (s : State) : Result := runValue (.mem (.abs w)) handleCpx s

/-- CPY (R114). -/
def handleCpy (m : Byte) (s : State) : HandlerResult :=
  .fallthrough (s.compare s.y m)

/-- `CPY #b` (opcode 0xC0; R114, mode R72). -/
def execCpyImm (b : Byte) (s : State) : Result := runValue (.imm b) handleCpy s

/-- `CPY b` (opcode 0xC4; R114, mode R73). -/
def execCpyZp (b : Byte) (s : State) : Result := runValue (.mem (.zp b)) handleCpy s

/-- `CPY w` (opcode 0xCC; R114, mode R76). -/
def execCpyAbs (w : Word) (s : State) : Result := runValue (.mem (.abs w)) handleCpy s

end Sys2Proof.Machine
end

