-- ==== Sys2Proof/Machine/Control.lean ====
section
/-! DEFINITION. the branches, JMP, JSR, RTS: the handlers of spec/45_branch_jump.md, and the meaning of each row. -/

namespace Sys2Proof.Machine

/-- BCC (R141): `cond = (C = false)`. -/
def handleBcc (d : Byte) (s : State) : HandlerResult := branch (!s.flagC) d s

/-- `BCC d` (opcode 0x90; R141, mode R82). -/
def execBcc (b : Byte) (s : State) : Result := runRelative b handleBcc s

/-- BCS (R142): `cond = (C = true)`. -/
def handleBcs (d : Byte) (s : State) : HandlerResult := branch (s.flagC) d s

/-- `BCS d` (opcode 0xB0; R142, mode R82). -/
def execBcs (b : Byte) (s : State) : Result := runRelative b handleBcs s

/-- BEQ (R143): `cond = (Z = true)`. -/
def handleBeq (d : Byte) (s : State) : HandlerResult := branch (s.flagZ) d s

/-- `BEQ d` (opcode 0xF0; R143, mode R82). -/
def execBeq (b : Byte) (s : State) : Result := runRelative b handleBeq s

/-- BNE (R144): `cond = (Z = false)`. -/
def handleBne (d : Byte) (s : State) : HandlerResult := branch (!s.flagZ) d s

/-- `BNE d` (opcode 0xD0; R144, mode R82). -/
def execBne (b : Byte) (s : State) : Result := runRelative b handleBne s

/-- BMI (R145): `cond = (N = true)`. -/
def handleBmi (d : Byte) (s : State) : HandlerResult := branch (s.flagN) d s

/-- `BMI d` (opcode 0x30; R145, mode R82). -/
def execBmi (b : Byte) (s : State) : Result := runRelative b handleBmi s

/-- BPL (R146): `cond = (N = false)`. -/
def handleBpl (d : Byte) (s : State) : HandlerResult := branch (!s.flagN) d s

/-- `BPL d` (opcode 0x10; R146, mode R82). -/
def execBpl (b : Byte) (s : State) : Result := runRelative b handleBpl s

/-- BVC (R147): `cond = (V = false)`. -/
def handleBvc (d : Byte) (s : State) : HandlerResult := branch (!s.flagV) d s

/-- `BVC d` (opcode 0x50; R147, mode R82). -/
def execBvc (b : Byte) (s : State) : Result := runRelative b handleBvc s

/-- BVS (R148): `cond = (V = true)`. -/
def handleBvs (d : Byte) (s : State) : HandlerResult := branch (s.flagV) d s

/-- `BVS d` (opcode 0x70; R148, mode R82). -/
def execBvs (b : Byte) (s : State) : Result := runRelative b handleBvs s

/-- JMP (R150): the target is the effective address. -/
def handleJmp (ea : Word) (s : State) : HandlerResult :=
  .retarget (s.setPc ea)

/-- `JMP w` (opcode 0x4C; R150, mode R76). -/
def execJmpAbs (w : Word) (s : State) : Result := runAddress (.abs w) handleJmp s

/-- `JMP (w)` (opcode 0x6C; R150, mode R81). -/
def execJmpInd (w : Word) (s : State) : Result := runAddress (.ind w) handleJmp s

/-- JSR (R151): push the address of its own last byte, then go to the target. -/
def handleJsr (ea : Word) (s : State) : HandlerResult :=
  .retarget ((s.pushWord (s.pc + 2)).setPc ea)

/-- `JSR w` (opcode 0x20; R151, mode R76). -/
def execJsr (w : Word) (s : State) : Result := runAddress (.abs w) handleJsr s

/-- RTS (R152): pull low then high, and add 1. -/
def handleRts (s : State) : HandlerResult :=
  let (target, s1) := s.pullWord
  .retarget (s1.setPc (target + 1))

/-- `RTS` (opcode 0x60; R152, mode R71). -/
def execRts (s : State) : Result := runImplied handleRts s

end Sys2Proof.Machine
end

