-- ==== Sys2Proof/Machine/FlagOps.lean ====
section
/-! DEFINITION. CLC, CLD, CLI, CLV, SEC, SED, SEI: the handlers of spec/46_flag_set_clear.md, and the meaning of each row. -/

namespace Sys2Proof.Machine

/-- CLC (R160). -/
def handleClc (s : State) : HandlerResult := .fallthrough { s with flagC := false }

/-- `CLC` (opcode 0x18; R160, mode R71). -/
def execClc (s : State) : Result := runImplied handleClc s

/-- CLD (R161). -/
def handleCld (s : State) : HandlerResult := .fallthrough { s with flagD := false }

/-- `CLD` (opcode 0xD8; R161, mode R71). -/
def execCld (s : State) : Result := runImplied handleCld s

/-- CLI (R162). -/
def handleCli (s : State) : HandlerResult := .fallthrough { s with flagI := false }

/-- `CLI` (opcode 0x58; R162, mode R71). -/
def execCli (s : State) : Result := runImplied handleCli s

/-- CLV (R163). -/
def handleClv (s : State) : HandlerResult := .fallthrough { s with flagV := false }

/-- `CLV` (opcode 0xB8; R163, mode R71). -/
def execClv (s : State) : Result := runImplied handleClv s

/-- SEC (R164). -/
def handleSec (s : State) : HandlerResult := .fallthrough { s with flagC := true }

/-- `SEC` (opcode 0x38; R164, mode R71). -/
def execSec (s : State) : Result := runImplied handleSec s

/-- SED (R165). -/
def handleSed (s : State) : HandlerResult := .fallthrough { s with flagD := true }

/-- `SED` (opcode 0xF8; R165, mode R71). -/
def execSed (s : State) : Result := runImplied handleSed s

/-- SEI (R166). -/
def handleSei (s : State) : HandlerResult := .fallthrough { s with flagI := true }

/-- `SEI` (opcode 0x78; R166, mode R71). -/
def execSei (s : State) : Result := runImplied handleSei s

end Sys2Proof.Machine
end

