-- ==== Sys2Proof/Machine/IncDec.lean ====
section
/-! DEFINITION. INC, DEC, INX, INY, DEX, DEY: the handlers of spec/48_increment_decrement.md, and the meaning of each row. -/

namespace Sys2Proof.Machine

/-- INC (R190). -/
def handleInc (t : Target) (v : Byte) (s : State) : HandlerResult :=
  .fallthrough ((s.setNZ (v + 1)).writeBack t (v + 1))

/-- `INC b` (opcode 0xE6; R190, mode R73). -/
def execIncZp (b : Byte) (s : State) : Result := runModify (.mem (.zp b)) handleInc s

/-- `INC b,X` (opcode 0xF6; R190, mode R74). -/
def execIncZpx (b : Byte) (s : State) : Result := runModify (.mem (.zpx b)) handleInc s

/-- `INC w` (opcode 0xEE; R190, mode R76). -/
def execIncAbs (w : Word) (s : State) : Result := runModify (.mem (.abs w)) handleInc s

/-- `INC w,X` (opcode 0xFE; R190, mode R77). -/
def execIncAbsx (w : Word) (s : State) : Result := runModify (.mem (.absx w)) handleInc s

/-- DEC (R191). -/
def handleDec (t : Target) (v : Byte) (s : State) : HandlerResult :=
  .fallthrough ((s.setNZ (v - 1)).writeBack t (v - 1))

/-- `DEC b` (opcode 0xC6; R191, mode R73). -/
def execDecZp (b : Byte) (s : State) : Result := runModify (.mem (.zp b)) handleDec s

/-- `DEC b,X` (opcode 0xD6; R191, mode R74). -/
def execDecZpx (b : Byte) (s : State) : Result := runModify (.mem (.zpx b)) handleDec s

/-- `DEC w` (opcode 0xCE; R191, mode R76). -/
def execDecAbs (w : Word) (s : State) : Result := runModify (.mem (.abs w)) handleDec s

/-- `DEC w,X` (opcode 0xDE; R191, mode R77). -/
def execDecAbsx (w : Word) (s : State) : Result := runModify (.mem (.absx w)) handleDec s

/-- INX (R192). -/
def handleInx (s : State) : HandlerResult := .fallthrough (s.loadX (s.x + 1))

/-- `INX` (opcode 0xE8; R192, mode R71). -/
def execInx (s : State) : Result := runImplied handleInx s

/-- INY (R193). -/
def handleIny (s : State) : HandlerResult := .fallthrough (s.loadY (s.y + 1))

/-- `INY` (opcode 0xC8; R193, mode R71). -/
def execIny (s : State) : Result := runImplied handleIny s

/-- DEX (R194). -/
def handleDex (s : State) : HandlerResult := .fallthrough (s.loadX (s.x - 1))

/-- `DEX` (opcode 0xCA; R194, mode R71). -/
def execDex (s : State) : Result := runImplied handleDex s

/-- DEY (R195). -/
def handleDey (s : State) : HandlerResult := .fallthrough (s.loadY (s.y - 1))

/-- `DEY` (opcode 0x88; R195, mode R71). -/
def execDey (s : State) : Result := runImplied handleDey s

end Sys2Proof.Machine
end

