-- ==== Sys2Proof/Machine/Logical.lean ====
section
/-! DEFINITION. AND, ORA, EOR, BIT: the handlers of spec/43_logical_bit.md, and the meaning of each row. -/

namespace Sys2Proof.Machine

/-- AND (R120). -/
def handleAnd (m : Byte) (s : State) : HandlerResult :=
  .fallthrough (s.loadA (s.a &&& m))

/-- `AND #b` (opcode 0x29; R120, mode R72). -/
def execAndImm (b : Byte) (s : State) : Result := runValue (.imm b) handleAnd s

/-- `AND b` (opcode 0x25; R120, mode R73). -/
def execAndZp (b : Byte) (s : State) : Result := runValue (.mem (.zp b)) handleAnd s

/-- `AND b,X` (opcode 0x35; R120, mode R74). -/
def execAndZpx (b : Byte) (s : State) : Result := runValue (.mem (.zpx b)) handleAnd s

/-- `AND w` (opcode 0x2D; R120, mode R76). -/
def execAndAbs (w : Word) (s : State) : Result := runValue (.mem (.abs w)) handleAnd s

/-- `AND w,X` (opcode 0x3D; R120, mode R77). -/
def execAndAbsx (w : Word) (s : State) : Result := runValue (.mem (.absx w)) handleAnd s

/-- `AND w,Y` (opcode 0x39; R120, mode R78). -/
def execAndAbsy (w : Word) (s : State) : Result := runValue (.mem (.absy w)) handleAnd s

/-- `AND (b,X)` (opcode 0x21; R120, mode R79). -/
def execAndIndx (b : Byte) (s : State) : Result := runValue (.mem (.indx b)) handleAnd s

/-- `AND (b),Y` (opcode 0x31; R120, mode R80). -/
def execAndIndy (b : Byte) (s : State) : Result := runValue (.mem (.indy b)) handleAnd s

/-- ORA (R121). -/
def handleOra (m : Byte) (s : State) : HandlerResult :=
  .fallthrough (s.loadA (s.a ||| m))

/-- `ORA #b` (opcode 0x09; R121, mode R72). -/
def execOraImm (b : Byte) (s : State) : Result := runValue (.imm b) handleOra s

/-- `ORA b` (opcode 0x05; R121, mode R73). -/
def execOraZp (b : Byte) (s : State) : Result := runValue (.mem (.zp b)) handleOra s

/-- `ORA b,X` (opcode 0x15; R121, mode R74). -/
def execOraZpx (b : Byte) (s : State) : Result := runValue (.mem (.zpx b)) handleOra s

/-- `ORA w` (opcode 0x0D; R121, mode R76). -/
def execOraAbs (w : Word) (s : State) : Result := runValue (.mem (.abs w)) handleOra s

/-- `ORA w,X` (opcode 0x1D; R121, mode R77). -/
def execOraAbsx (w : Word) (s : State) : Result := runValue (.mem (.absx w)) handleOra s

/-- `ORA w,Y` (opcode 0x19; R121, mode R78). -/
def execOraAbsy (w : Word) (s : State) : Result := runValue (.mem (.absy w)) handleOra s

/-- `ORA (b,X)` (opcode 0x01; R121, mode R79). -/
def execOraIndx (b : Byte) (s : State) : Result := runValue (.mem (.indx b)) handleOra s

/-- `ORA (b),Y` (opcode 0x11; R121, mode R80). -/
def execOraIndy (b : Byte) (s : State) : Result := runValue (.mem (.indy b)) handleOra s

/-- EOR (R122). -/
def handleEor (m : Byte) (s : State) : HandlerResult :=
  .fallthrough (s.loadA (s.a ^^^ m))

/-- `EOR #b` (opcode 0x49; R122, mode R72). -/
def execEorImm (b : Byte) (s : State) : Result := runValue (.imm b) handleEor s

/-- `EOR b` (opcode 0x45; R122, mode R73). -/
def execEorZp (b : Byte) (s : State) : Result := runValue (.mem (.zp b)) handleEor s

/-- `EOR b,X` (opcode 0x55; R122, mode R74). -/
def execEorZpx (b : Byte) (s : State) : Result := runValue (.mem (.zpx b)) handleEor s

/-- `EOR w` (opcode 0x4D; R122, mode R76). -/
def execEorAbs (w : Word) (s : State) : Result := runValue (.mem (.abs w)) handleEor s

/-- `EOR w,X` (opcode 0x5D; R122, mode R77). -/
def execEorAbsx (w : Word) (s : State) : Result := runValue (.mem (.absx w)) handleEor s

/-- `EOR w,Y` (opcode 0x59; R122, mode R78). -/
def execEorAbsy (w : Word) (s : State) : Result := runValue (.mem (.absy w)) handleEor s

/-- `EOR (b,X)` (opcode 0x41; R122, mode R79). -/
def execEorIndx (b : Byte) (s : State) : Result := runValue (.mem (.indx b)) handleEor s

/-- `EOR (b),Y` (opcode 0x51; R122, mode R80). -/
def execEorIndy (b : Byte) (s : State) : Result := runValue (.mem (.indy b)) handleEor s

/-- BIT (R123): Z from `A & M`, N and V from bits 7 and 6 of M. -/
def handleBit (m : Byte) (s : State) : HandlerResult :=
  .fallthrough { s with
    flagZ := s.a &&& m == 0
    flagN := bitOf m 7
    flagV := bitOf m 6 }

/-- `BIT b` (opcode 0x24; R123, mode R73). -/
def execBitZp (b : Byte) (s : State) : Result := runValue (.mem (.zp b)) handleBit s

/-- `BIT w` (opcode 0x2C; R123, mode R76). -/
def execBitAbs (w : Word) (s : State) : Result := runValue (.mem (.abs w)) handleBit s

end Sys2Proof.Machine
end

