-- ==== Sys2Proof/Machine/Shift.lean ====
section
/-! DEFINITION. ASL, LSR, ROL, ROR: the handlers of spec/44_shift_rotate.md, and the meaning of each row. -/

namespace Sys2Proof.Machine

/-- ASL (R130). -/
def handleAsl (t : Target) (v : Byte) (s : State) : HandlerResult :=
  .fallthrough (s.shiftTo t (v <<< 1) (bitOf v 7))

/-- `ASL A` (opcode 0x0A; R130, mode R83). -/
def execAslAcc (s : State) : Result := runModify .acc handleAsl s

/-- `ASL b` (opcode 0x06; R130, mode R73). -/
def execAslZp (b : Byte) (s : State) : Result := runModify (.mem (.zp b)) handleAsl s

/-- `ASL b,X` (opcode 0x16; R130, mode R74). -/
def execAslZpx (b : Byte) (s : State) : Result := runModify (.mem (.zpx b)) handleAsl s

/-- `ASL w` (opcode 0x0E; R130, mode R76). -/
def execAslAbs (w : Word) (s : State) : Result := runModify (.mem (.abs w)) handleAsl s

/-- `ASL w,X` (opcode 0x1E; R130, mode R77). -/
def execAslAbsx (w : Word) (s : State) : Result := runModify (.mem (.absx w)) handleAsl s

/-- LSR (R131). -/
def handleLsr (t : Target) (v : Byte) (s : State) : HandlerResult :=
  .fallthrough (s.shiftTo t (v >>> 1) (bitOf v 0))

/-- `LSR A` (opcode 0x4A; R131, mode R83). -/
def execLsrAcc (s : State) : Result := runModify .acc handleLsr s

/-- `LSR b` (opcode 0x46; R131, mode R73). -/
def execLsrZp (b : Byte) (s : State) : Result := runModify (.mem (.zp b)) handleLsr s

/-- `LSR b,X` (opcode 0x56; R131, mode R74). -/
def execLsrZpx (b : Byte) (s : State) : Result := runModify (.mem (.zpx b)) handleLsr s

/-- `LSR w` (opcode 0x4E; R131, mode R76). -/
def execLsrAbs (w : Word) (s : State) : Result := runModify (.mem (.abs w)) handleLsr s

/-- `LSR w,X` (opcode 0x5E; R131, mode R77). -/
def execLsrAbsx (w : Word) (s : State) : Result := runModify (.mem (.absx w)) handleLsr s

/-- ROL (R132): the old C enters bit 0. -/
def handleRol (t : Target) (v : Byte) (s : State) : HandlerResult :=
  .fallthrough (s.shiftTo t (v <<< 1 ||| flagByte s.flagC 0) (bitOf v 7))

/-- `ROL A` (opcode 0x2A; R132, mode R83). -/
def execRolAcc (s : State) : Result := runModify .acc handleRol s

/-- `ROL b` (opcode 0x26; R132, mode R73). -/
def execRolZp (b : Byte) (s : State) : Result := runModify (.mem (.zp b)) handleRol s

/-- `ROL b,X` (opcode 0x36; R132, mode R74). -/
def execRolZpx (b : Byte) (s : State) : Result := runModify (.mem (.zpx b)) handleRol s

/-- `ROL w` (opcode 0x2E; R132, mode R76). -/
def execRolAbs (w : Word) (s : State) : Result := runModify (.mem (.abs w)) handleRol s

/-- `ROL w,X` (opcode 0x3E; R132, mode R77). -/
def execRolAbsx (w : Word) (s : State) : Result := runModify (.mem (.absx w)) handleRol s

/-- ROR (R133): the old C enters bit 7. -/
def handleRor (t : Target) (v : Byte) (s : State) : HandlerResult :=
  .fallthrough (s.shiftTo t (v >>> 1 ||| flagByte s.flagC 7) (bitOf v 0))

/-- `ROR A` (opcode 0x6A; R133, mode R83). -/
def execRorAcc (s : State) : Result := runModify .acc handleRor s

/-- `ROR b` (opcode 0x66; R133, mode R73). -/
def execRorZp (b : Byte) (s : State) : Result := runModify (.mem (.zp b)) handleRor s

/-- `ROR b,X` (opcode 0x76; R133, mode R74). -/
def execRorZpx (b : Byte) (s : State) : Result := runModify (.mem (.zpx b)) handleRor s

/-- `ROR w` (opcode 0x6E; R133, mode R76). -/
def execRorAbs (w : Word) (s : State) : Result := runModify (.mem (.abs w)) handleRor s

/-- `ROR w,X` (opcode 0x7E; R133, mode R77). -/
def execRorAbsx (w : Word) (s : State) : Result := runModify (.mem (.absx w)) handleRor s

end Sys2Proof.Machine
end

