-- ==== Sys2Proof/Machine/StackSystem.lean ====
section
/-! DEFINITION. PHA, PHP, PLA, PLP, BRK, RTI, NOP: the handlers of spec/49_stack_system.md, and the meaning of each row. -/

namespace Sys2Proof.Machine

/-- PHA (R200). -/
def handlePha (s : State) : HandlerResult := .fallthrough (s.push s.a)

/-- `PHA` (opcode 0x48; R200, mode R71). -/
def execPha (s : State) : Result := runImplied handlePha s

/-- PHP (R201): bits 5 and 4 of the pushed byte are 1 (R24). -/
def handlePhp (s : State) : HandlerResult := .fallthrough (s.push s.packP)

/-- `PHP` (opcode 0x08; R201, mode R71). -/
def execPhp (s : State) : Result := runImplied handlePhp s

/-- PLA (R202). -/
def handlePla (s : State) : HandlerResult :=
  let (v, s1) := s.pull
  .fallthrough (s1.loadA v)

/-- `PLA` (opcode 0x68; R202, mode R71). -/
def execPla (s : State) : Result := runImplied handlePla s

/-- PLP (R203): bits 5 and 4 ignored, B not written. -/
def handlePlp (s : State) : HandlerResult :=
  let (p, s1) := s.pull
  .fallthrough (s1.unpackP p)

/-- `PLP` (opcode 0x28; R203, mode R71). -/
def execPlp (s : State) : Result := runImplied handlePlp s

/-- BRK (R204): it takes the software trap of R229. -/
def handleBrk (s : State) : HandlerResult := .retarget s.trapEntry

/-- `BRK` (opcode 0x00; R204, mode R71). -/
def execBrk (s : State) : Result := runImplied handleBrk s

/-- RTI (R205): it returns from the trap (R230). -/
def handleRti (s : State) : HandlerResult := .retarget s.trapReturn

/-- `RTI` (opcode 0x40; R205, mode R71). -/
def execRti (s : State) : Result := runImplied handleRti s

/-- NOP (R206). -/
def handleNop (s : State) : HandlerResult := .fallthrough s

/-- `NOP` (opcode 0xEA; R206, mode R71). -/
def execNop (s : State) : Result := runImplied handleNop s

end Sys2Proof.Machine
end

