-- ==== Sys2Proof/Machine/Transfer.lean ====
section
/-! DEFINITION. loads, stores, register transfers: the handlers of spec/47_load_store_transfer.md, and the meaning of each row. -/

namespace Sys2Proof.Machine

/-- LDA (R170). -/
def handleLda (m : Byte) (s : State) : HandlerResult :=
  .fallthrough (s.loadA m)

/-- `LDA #b` (opcode 0xA9; R170, mode R72). -/
def execLdaImm (b : Byte) (s : State) : Result := runValue (.imm b) handleLda s

/-- `LDA b` (opcode 0xA5; R170, mode R73). -/
def execLdaZp (b : Byte) (s : State) : Result := runValue (.mem (.zp b)) handleLda s

/-- `LDA b,X` (opcode 0xB5; R170, mode R74). -/
def execLdaZpx (b : Byte) (s : State) : Result := runValue (.mem (.zpx b)) handleLda s

/-- `LDA w` (opcode 0xAD; R170, mode R76). -/
def execLdaAbs (w : Word) (s : State) : Result := runValue (.mem (.abs w)) handleLda s

/-- `LDA w,X` (opcode 0xBD; R170, mode R77). -/
def execLdaAbsx (w : Word) (s : State) : Result := runValue (.mem (.absx w)) handleLda s

/-- `LDA w,Y` (opcode 0xB9; R170, mode R78). -/
def execLdaAbsy (w : Word) (s : State) : Result := runValue (.mem (.absy w)) handleLda s

/-- `LDA (b,X)` (opcode 0xA1; R170, mode R79). -/
def execLdaIndx (b : Byte) (s : State) : Result := runValue (.mem (.indx b)) handleLda s

/-- `LDA (b),Y` (opcode 0xB1; R170, mode R80). -/
def execLdaIndy (b : Byte) (s : State) : Result := runValue (.mem (.indy b)) handleLda s

/-- LDX (R171). -/
def handleLdx (m : Byte) (s : State) : HandlerResult :=
  .fallthrough (s.loadX m)

/-- `LDX #b` (opcode 0xA2; R171, mode R72). -/
def execLdxImm (b : Byte) (s : State) : Result := runValue (.imm b) handleLdx s

/-- `LDX b` (opcode 0xA6; R171, mode R73). -/
def execLdxZp (b : Byte) (s : State) : Result := runValue (.mem (.zp b)) handleLdx s

/-- `LDX b,Y` (opcode 0xB6; R171, mode R75). -/
def execLdxZpy (b : Byte) (s : State) : Result := runValue (.mem (.zpy b)) handleLdx s

/-- `LDX w` (opcode 0xAE; R171, mode R76). -/
def execLdxAbs (w : Word) (s : State) : Result := runValue (.mem (.abs w)) handleLdx s

/-- `LDX w,Y` (opcode 0xBE; R171, mode R78). -/
def execLdxAbsy (w : Word) (s : State) : Result := runValue (.mem (.absy w)) handleLdx s

/-- LDY (R172). -/
def handleLdy (m : Byte) (s : State) : HandlerResult :=
  .fallthrough (s.loadY m)

/-- `LDY #b` (opcode 0xA0; R172, mode R72). -/
def execLdyImm (b : Byte) (s : State) : Result := runValue (.imm b) handleLdy s

/-- `LDY b` (opcode 0xA4; R172, mode R73). -/
def execLdyZp (b : Byte) (s : State) : Result := runValue (.mem (.zp b)) handleLdy s

/-- `LDY b,X` (opcode 0xB4; R172, mode R74). -/
def execLdyZpx (b : Byte) (s : State) : Result := runValue (.mem (.zpx b)) handleLdy s

/-- `LDY w` (opcode 0xAC; R172, mode R76). -/
def execLdyAbs (w : Word) (s : State) : Result := runValue (.mem (.abs w)) handleLdy s

/-- `LDY w,X` (opcode 0xBC; R172, mode R77). -/
def execLdyAbsx (w : Word) (s : State) : Result := runValue (.mem (.absx w)) handleLdy s

/-- STA (R173). -/
def handleSta (ea : Word) (s : State) : HandlerResult :=
  .fallthrough (s.write ea s.a)

/-- `STA b` (opcode 0x85; R173, mode R73). -/
def execStaZp (b : Byte) (s : State) : Result := runAddress (.zp b) handleSta s

/-- `STA b,X` (opcode 0x95; R173, mode R74). -/
def execStaZpx (b : Byte) (s : State) : Result := runAddress (.zpx b) handleSta s

/-- `STA w` (opcode 0x8D; R173, mode R76). -/
def execStaAbs (w : Word) (s : State) : Result := runAddress (.abs w) handleSta s

/-- `STA w,X` (opcode 0x9D; R173, mode R77). -/
def execStaAbsx (w : Word) (s : State) : Result := runAddress (.absx w) handleSta s

/-- `STA w,Y` (opcode 0x99; R173, mode R78). -/
def execStaAbsy (w : Word) (s : State) : Result := runAddress (.absy w) handleSta s

/-- `STA (b,X)` (opcode 0x81; R173, mode R79). -/
def execStaIndx (b : Byte) (s : State) : Result := runAddress (.indx b) handleSta s

/-- `STA (b),Y` (opcode 0x91; R173, mode R80). -/
def execStaIndy (b : Byte) (s : State) : Result := runAddress (.indy b) handleSta s

/-- STX (R174). -/
def handleStx (ea : Word) (s : State) : HandlerResult :=
  .fallthrough (s.write ea s.x)

/-- `STX b` (opcode 0x86; R174, mode R73). -/
def execStxZp (b : Byte) (s : State) : Result := runAddress (.zp b) handleStx s

/-- `STX b,Y` (opcode 0x96; R174, mode R75). -/
def execStxZpy (b : Byte) (s : State) : Result := runAddress (.zpy b) handleStx s

/-- `STX w` (opcode 0x8E; R174, mode R76). -/
def execStxAbs (w : Word) (s : State) : Result := runAddress (.abs w) handleStx s

/-- STY (R175). -/
def handleSty (ea : Word) (s : State) : HandlerResult :=
  .fallthrough (s.write ea s.y)

/-- `STY b` (opcode 0x84; R175, mode R73). -/
def execStyZp (b : Byte) (s : State) : Result := runAddress (.zp b) handleSty s

/-- `STY b,X` (opcode 0x94; R175, mode R74). -/
def execStyZpx (b : Byte) (s : State) : Result := runAddress (.zpx b) handleSty s

/-- `STY w` (opcode 0x8C; R175, mode R76). -/
def execStyAbs (w : Word) (s : State) : Result := runAddress (.abs w) handleSty s

/-- TAX (R176). -/
def handleTax (s : State) : HandlerResult := .fallthrough (s.loadX s.a)

/-- `TAX` (opcode 0xAA; R176, mode R71). -/
def execTax (s : State) : Result := runImplied handleTax s

/-- TAY (R177). -/
def handleTay (s : State) : HandlerResult := .fallthrough (s.loadY s.a)

/-- `TAY` (opcode 0xA8; R177, mode R71). -/
def execTay (s : State) : Result := runImplied handleTay s

/-- TXA (R178). -/
def handleTxa (s : State) : HandlerResult := .fallthrough (s.loadA s.x)

/-- `TXA` (opcode 0x8A; R178, mode R71). -/
def execTxa (s : State) : Result := runImplied handleTxa s

/-- TYA (R179). -/
def handleTya (s : State) : HandlerResult := .fallthrough (s.loadA s.y)

/-- `TYA` (opcode 0x98; R179, mode R71). -/
def execTya (s : State) : Result := runImplied handleTya s

/-- TSX (R180). -/
def handleTsx (s : State) : HandlerResult := .fallthrough (s.loadX s.sp)

/-- `TSX` (opcode 0xBA; R180, mode R71). -/
def execTsx (s : State) : Result := runImplied handleTsx s

/-- TXS (R181): the one transfer that writes no flag. -/
def handleTxs (s : State) : HandlerResult := .fallthrough { s with sp := s.x }

/-- `TXS` (opcode 0x9A; R181, mode R71). -/
def execTxs (s : State) : Result := runImplied handleTxs s

end Sys2Proof.Machine
end

