-- ==== Sys2Proof/Machine/Step.lean ====
section
/-! DEFINITION. The step (R90), and where the next instruction is stored. -/

namespace Sys2Proof.Machine

/-- `Step` (R90, R95): fetch, and run the instruction; a byte without a row ends the step with
`UnknownOpcode`, its address and the byte, before anything is written (R91). -/
def step (s : State) : Host.Outcome State Fault Refusal :=
  match s.fetch with
  | some i => exec i s
  | none => .fault (.unknownOpcode s.pc (s.read s.pc))

/-- `s` with the three bytes from PC on holding the instruction whose bits are `w` (bit 0 the least
significant of the first byte, every bit from `nbits` on 0): the host's load of R252, for the very next
step (log 4). -/
def State.withFetchWord (s : State) (nbits w : Nat) : State :=
  let v := w % 2 ^ nbits
  ((s.write s.pc (BitVec.ofNat 8 v)).write (s.pc + 1) (BitVec.ofNat 8 (v / 256))).write
    (s.pc + 2) (BitVec.ofNat 8 (v / 65536))

end Sys2Proof.Machine
end

