-- ==== Sys2Proof/Machine/Trace.lean ====
section
/-! DEFINITION. What the host can see of a step beside the state: the register and flag snapshot (R28, R97),
the operand text (R60), and the trace record (R60, R98). No step reads any of it. -/

namespace Sys2Proof.Machine

/-- The register and flag snapshot (R97): the values of the twelve register and flag components. -/
structure Snapshot where
  a : Byte
  x : Byte
  y : Byte
  sp : Byte
  pc : Word
  flagN : Bool
  flagV : Bool
  flagB : Bool
  flagD : Bool
  flagI : Bool
  flagZ : Bool
  flagC : Bool
  deriving DecidableEq, Repr

/-- The snapshot of a state (R28). -/
def State.snapshot (s : State) : Snapshot where
  a := s.a
  x := s.x
  y := s.y
  sp := s.sp
  pc := s.pc
  flagN := s.flagN
  flagV := s.flagV
  flagB := s.flagB
  flagD := s.flagD
  flagI := s.flagI
  flagZ := s.flagZ
  flagC := s.flagC

/-- One upper-case hexadecimal digit. -/
def hexDigit (n : Nat) : Char :=
  ['0', '1', '2', '3', '4', '5', '6', '7', '8', '9', 'A', 'B', 'C', 'D', 'E', 'F'].getD (n % 16) '0'

/-- `nn`: a byte as two hexadecimal digits (R60). -/
def hex2 (b : Byte) : List Char := [hexDigit (b.toNat / 16), hexDigit b.toNat]

/-- `hhll`: a word as four hexadecimal digits, high byte first (R60). -/
def hex4 (w : Word) : List Char := hex2 (highByte w) ++ hex2 (lowByte w)

/-- The text of a memory operand (R60). -/
def memModeText : MemMode → List Char
  | .zp b => '$' :: hex2 b
  | .zpx b => '$' :: hex2 b ++ [',', 'X']
  | .zpy b => '$' :: hex2 b ++ [',', 'Y']
  | .abs w => '$' :: hex4 w
  | .absx w => '$' :: hex4 w ++ [',', 'X']
  | .absy w => '$' :: hex4 w ++ [',', 'Y']
  | .ind w => ['(', '$'] ++ hex4 w ++ [')']
  | .indx b => ['(', '$'] ++ hex2 b ++ [',', 'X', ')']
  | .indy b => ['(', '$'] ++ hex2 b ++ [')', ',', 'Y']

/-- The operand text of an instruction at `pc` (R60); a branch shows its target. -/
def operandText (pc : Word) : Operand → List Char
  | .imp => []
  | .acc => ['A']
  | .imm b => ['#', '$'] ++ hex2 b
  | .rel d => '$' :: hex4 (branchTarget pc d)
  | .mem m => memModeText m

/-- The trace record (R60): the address and byte of the opcode, mnemonic and mode, the operand bytes
present, `op.val` and the effective address where the mode has one. -/
structure TraceRecord where
  address : Word
  opcode : Byte
  mnemonic : Mnemonic
  mode : Mode
  operandBytes : List Byte
  val : Option Byte
  ea : Option Word
  deriving DecidableEq, Repr

/-- The address of a memory target. -/
def Target.ea : Target → Option Word
  | .acc => none
  | .mem ea => some ea

/-- The trace record of the instruction at PC (R98); none when its byte is an unknown opcode. -/
def State.traceRecord (s : State) : Option TraceRecord :=
  s.fetch.map fun i =>
    { address := s.pc
      opcode := s.read s.pc
      mnemonic := i.mnemonic
      mode := i.mode
      operandBytes := i.operand.bytes
      val := (resolve s i.operand).val
      ea := (resolve s i.operand).wb.bind Target.ea }

end Sys2Proof.Machine
end

