-- ==== Sys2Proof/Machine/HostInterface.lean ====
section
/-! DEFINITION. What the host may do between steps (R252): load memory, set the entry and any register or
flag, hand the core its launch state (R250), and what a step returns to it (R97). None of it is part of a
step. -/

namespace Sys2Proof.Machine

/-- load (R252): store bytes from `origin` on. DEDUCED (log 9): past 0xFFFF it goes on at 0x0000. -/
def State.hostLoad (s : State) (origin : Word) : List Byte → State
  | [] => s
  | v :: rest => (s.write origin v).hostLoad (origin + 1) rest

/-- set entry (R252): write PC. -/
def State.hostSetPc (s : State) (origin : Word) : State := s.setPc origin

/-- set entry (R252): write every register and flag. -/
def State.hostSetRegisters (s : State) (r : Snapshot) : State where
  a := r.a
  x := r.x
  y := r.y
  sp := r.sp
  pc := r.pc
  flagN := r.flagN
  flagV := r.flagV
  flagB := r.flagB
  flagD := r.flagD
  flagI := r.flagI
  flagZ := r.flagZ
  flagC := r.flagC
  mem := s.mem

/-- The launch state (R250): the registers and flags the host chose, and a program image at its origin. -/
def State.launch (r : Snapshot) (origin : Word) (image : List Byte) : State :=
  (State.reset.hostSetRegisters r).hostLoad origin image

/-- What a step that ends with `Next` returns (R97): the mnemonic, the operand text, and the snapshot
after the step. -/
structure StepReport where
  mnemonic : Mnemonic
  operandText : List Char
  after : Snapshot
  deriving DecidableEq, Repr

/-- What the host receives of a step (R97, R224): the report, or the condition with the address and the
byte. -/
def stepReport (s : State) : Host.Outcome StepReport Fault Refusal :=
  match s.fetch with
  | none => .fault (.unknownOpcode s.pc (s.read s.pc))
  | some i =>
    match exec i s with
    | .next t => .next ⟨i.mnemonic, operandText s.pc i.operand, t.snapshot⟩
    | .fault f => .fault f
    | .refused r => .refused r

end Sys2Proof.Machine
end

