-- ==== Sys2Proof/Safety.lean ====
section
/-! DEFINITION. What counts as a safe state and a safe run, in the terms claims use. -/

namespace Sys2Proof

/-- The invariant of the state: its memory has the canonical form (the registers and flags have no illegal
value, R10, R15, R16). -/
def Inv (s : Machine.State) : Prop := Machine.Memory.wf s.mem = true

/-- The byte at PC has a row in the instruction table (R91). -/
def KnownOpcode (s : Machine.State) : Prop := (lookup (s.read s.pc)).isSome = true

/-- `k` steps run from `s` without a reported condition, and end in `t` (R95, R100). -/
def RunsTo (k : Nat) (s t : Machine.State) : Prop := core.run k s = .next t

end Sys2Proof
end

