-- ==== Sys2Proof/Certificates/Slice0/Obligations.lean ====
section
/-! DEFINITION. The statements for the provers. The forms of an instruction, the two ways a statement says
what a store leaves of memory, and the handler of each mnemonic on an operand record are defined first. -/

namespace Sys2Proof

open Machine

/-- One encoded form of an instruction: its opcode byte, the instruction, its operand, and its length. -/
structure EncodedForm (α : Type) where
  opcode : Byte
  instr : Instr
  operand : α
  length : Word

/-- The encoded forms of ADC (R110). -/
def Forms.adc (b1 b2 : Byte) : List (EncodedForm Source) :=
  [⟨0x69, .adcImm b1, .imm b1, 2⟩,
   ⟨0x65, .adcZp b1, .mem (.zp b1), 2⟩,
   ⟨0x75, .adcZpx b1, .mem (.zpx b1), 2⟩,
   ⟨0x6D, .adcAbs (wordOf b2 b1), .mem (.abs (wordOf b2 b1)), 3⟩,
   ⟨0x7D, .adcAbsx (wordOf b2 b1), .mem (.absx (wordOf b2 b1)), 3⟩,
   ⟨0x79, .adcAbsy (wordOf b2 b1), .mem (.absy (wordOf b2 b1)), 3⟩,
   ⟨0x61, .adcIndx b1, .mem (.indx b1), 2⟩,
   ⟨0x71, .adcIndy b1, .mem (.indy b1), 2⟩]

/-- The encoded forms of SBC (R111). -/
def Forms.sbc (b1 b2 : Byte) : List (EncodedForm Source) :=
  [⟨0xE9, .sbcImm b1, .imm b1, 2⟩,
   ⟨0xE5, .sbcZp b1, .mem (.zp b1), 2⟩,
   ⟨0xF5, .sbcZpx b1, .mem (.zpx b1), 2⟩,
   ⟨0xED, .sbcAbs (wordOf b2 b1), .mem (.abs (wordOf b2 b1)), 3⟩,
   ⟨0xFD, .sbcAbsx (wordOf b2 b1), .mem (.absx (wordOf b2 b1)), 3⟩,
   ⟨0xF9, .sbcAbsy (wordOf b2 b1), .mem (.absy (wordOf b2 b1)), 3⟩,
   ⟨0xE1, .sbcIndx b1, .mem (.indx b1), 2⟩,
   ⟨0xF1, .sbcIndy b1, .mem (.indy b1), 2⟩]

/-- The encoded forms of CMP (R112). -/
def Forms.cmp (b1 b2 : Byte) : List (EncodedForm Source) :=
  [⟨0xC9, .cmpImm b1, .imm b1, 2⟩,
   ⟨0xC5, .cmpZp b1, .mem (.zp b1), 2⟩,
   ⟨0xD5, .cmpZpx b1, .mem (.zpx b1), 2⟩,
   ⟨0xCD, .cmpAbs (wordOf b2 b1), .mem (.abs (wordOf b2 b1)), 3⟩,
   ⟨0xDD, .cmpAbsx (wordOf b2 b1), .mem (.absx (wordOf b2 b1)), 3⟩,
   ⟨0xD9, .cmpAbsy (wordOf b2 b1), .mem (.absy (wordOf b2 b1)), 3⟩,
   ⟨0xC1, .cmpIndx b1, .mem (.indx b1), 2⟩,
   ⟨0xD1, .cmpIndy b1, .mem (.indy b1), 2⟩]

/-- The encoded forms of CPX (R113). -/
def Forms.cpx (b1 b2 : Byte) : List (EncodedForm Source) :=
  [⟨0xE0, .cpxImm b1, .imm b1, 2⟩,
   ⟨0xE4, .cpxZp b1, .mem (.zp b1), 2⟩,
   ⟨0xEC, .cpxAbs (wordOf b2 b1), .mem (.abs (wordOf b2 b1)), 3⟩]

/-- The encoded forms of CPY (R114). -/
def Forms.cpy (b1 b2 : Byte) : List (EncodedForm Source) :=
  [⟨0xC0, .cpyImm b1, .imm b1, 2⟩,
   ⟨0xC4, .cpyZp b1, .mem (.zp b1), 2⟩,
   ⟨0xCC, .cpyAbs (wordOf b2 b1), .mem (.abs (wordOf b2 b1)), 3⟩]

/-- The encoded forms of AND (R120). -/
def Forms.and (b1 b2 : Byte) : List (EncodedForm Source) :=
  [⟨0x29, .andImm b1, .imm b1, 2⟩,
   ⟨0x25, .andZp b1, .mem (.zp b1), 2⟩,
   ⟨0x35, .andZpx b1, .mem (.zpx b1), 2⟩,
   ⟨0x2D, .andAbs (wordOf b2 b1), .mem (.abs (wordOf b2 b1)), 3⟩,
   ⟨0x3D, .andAbsx (wordOf b2 b1), .mem (.absx (wordOf b2 b1)), 3⟩,
   ⟨0x39, .andAbsy (wordOf b2 b1), .mem (.absy (wordOf b2 b1)), 3⟩,
   ⟨0x21, .andIndx b1, .mem (.indx b1), 2⟩,
   ⟨0x31, .andIndy b1, .mem (.indy b1), 2⟩]

/-- The encoded forms of ORA (R121). -/
def Forms.ora (b1 b2 : Byte) : List (EncodedForm Source) :=
  [⟨0x09, .oraImm b1, .imm b1, 2⟩,
   ⟨0x05, .oraZp b1, .mem (.zp b1), 2⟩,
   ⟨0x15, .oraZpx b1, .mem (.zpx b1), 2⟩,
   ⟨0x0D, .oraAbs (wordOf b2 b1), .mem (.abs (wordOf b2 b1)), 3⟩,
   ⟨0x1D, .oraAbsx (wordOf b2 b1), .mem (.absx (wordOf b2 b1)), 3⟩,
   ⟨0x19, .oraAbsy (wordOf b2 b1), .mem (.absy (wordOf b2 b1)), 3⟩,
   ⟨0x01, .oraIndx b1, .mem (.indx b1), 2⟩,
   ⟨0x11, .oraIndy b1, .mem (.indy b1), 2⟩]

/-- The encoded forms of EOR (R122). -/
def Forms.eor (b1 b2 : Byte) : List (EncodedForm Source) :=
  [⟨0x49, .eorImm b1, .imm b1, 2⟩,
   ⟨0x45, .eorZp b1, .mem (.zp b1), 2⟩,
   ⟨0x55, .eorZpx b1, .mem (.zpx b1), 2⟩,
   ⟨0x4D, .eorAbs (wordOf b2 b1), .mem (.abs (wordOf b2 b1)), 3⟩,
   ⟨0x5D, .eorAbsx (wordOf b2 b1), .mem (.absx (wordOf b2 b1)), 3⟩,
   ⟨0x59, .eorAbsy (wordOf b2 b1), .mem (.absy (wordOf b2 b1)), 3⟩,
   ⟨0x41, .eorIndx b1, .mem (.indx b1), 2⟩,
   ⟨0x51, .eorIndy b1, .mem (.indy b1), 2⟩]

/-- The encoded forms of BIT (R123). -/
def Forms.bit (b1 b2 : Byte) : List (EncodedForm Source) :=
  [⟨0x24, .bitZp b1, .mem (.zp b1), 2⟩,
   ⟨0x2C, .bitAbs (wordOf b2 b1), .mem (.abs (wordOf b2 b1)), 3⟩]

/-- The encoded forms of LDA (R170). -/
def Forms.lda (b1 b2 : Byte) : List (EncodedForm Source) :=
  [⟨0xA9, .ldaImm b1, .imm b1, 2⟩,
   ⟨0xA5, .ldaZp b1, .mem (.zp b1), 2⟩,
   ⟨0xB5, .ldaZpx b1, .mem (.zpx b1), 2⟩,
   ⟨0xAD, .ldaAbs (wordOf b2 b1), .mem (.abs (wordOf b2 b1)), 3⟩,
   ⟨0xBD, .ldaAbsx (wordOf b2 b1), .mem (.absx (wordOf b2 b1)), 3⟩,
   ⟨0xB9, .ldaAbsy (wordOf b2 b1), .mem (.absy (wordOf b2 b1)), 3⟩,
   ⟨0xA1, .ldaIndx b1, .mem (.indx b1), 2⟩,
   ⟨0xB1, .ldaIndy b1, .mem (.indy b1), 2⟩]

/-- The encoded forms of LDX (R171). -/
def Forms.ldx (b1 b2 : Byte) : List (EncodedForm Source) :=
  [⟨0xA2, .ldxImm b1, .imm b1, 2⟩,
   ⟨0xA6, .ldxZp b1, .mem (.zp b1), 2⟩,
   ⟨0xB6, .ldxZpy b1, .mem (.zpy b1), 2⟩,
   ⟨0xAE, .ldxAbs (wordOf b2 b1), .mem (.abs (wordOf b2 b1)), 3⟩,
   ⟨0xBE, .ldxAbsy (wordOf b2 b1), .mem (.absy (wordOf b2 b1)), 3⟩]

/-- The encoded forms of LDY (R172). -/
def Forms.ldy (b1 b2 : Byte) : List (EncodedForm Source) :=
  [⟨0xA0, .ldyImm b1, .imm b1, 2⟩,
   ⟨0xA4, .ldyZp b1, .mem (.zp b1), 2⟩,
   ⟨0xB4, .ldyZpx b1, .mem (.zpx b1), 2⟩,
   ⟨0xAC, .ldyAbs (wordOf b2 b1), .mem (.abs (wordOf b2 b1)), 3⟩,
   ⟨0xBC, .ldyAbsx (wordOf b2 b1), .mem (.absx (wordOf b2 b1)), 3⟩]

/-- The encoded forms of ASL (R130). -/
def Forms.asl (b1 b2 : Byte) : List (EncodedForm Place) :=
  [⟨0x0A, .aslAcc, .acc, 1⟩,
   ⟨0x06, .aslZp b1, .mem (.zp b1), 2⟩,
   ⟨0x16, .aslZpx b1, .mem (.zpx b1), 2⟩,
   ⟨0x0E, .aslAbs (wordOf b2 b1), .mem (.abs (wordOf b2 b1)), 3⟩,
   ⟨0x1E, .aslAbsx (wordOf b2 b1), .mem (.absx (wordOf b2 b1)), 3⟩]

/-- The encoded forms of LSR (R131). -/
def Forms.lsr (b1 b2 : Byte) : List (EncodedForm Place) :=
  [⟨0x4A, .lsrAcc, .acc, 1⟩,
   ⟨0x46, .lsrZp b1, .mem (.zp b1), 2⟩,
   ⟨0x56, .lsrZpx b1, .mem (.zpx b1), 2⟩,
   ⟨0x4E, .lsrAbs (wordOf b2 b1), .mem (.abs (wordOf b2 b1)), 3⟩,
   ⟨0x5E, .lsrAbsx (wordOf b2 b1), .mem (.absx (wordOf b2 b1)), 3⟩]

/-- The encoded forms of ROL (R132). -/
def Forms.rol (b1 b2 : Byte) : List (EncodedForm Place) :=
  [⟨0x2A, .rolAcc, .acc, 1⟩,
   ⟨0x26, .rolZp b1, .mem (.zp b1), 2⟩,
   ⟨0x36, .rolZpx b1, .mem (.zpx b1), 2⟩,
   ⟨0x2E, .rolAbs (wordOf b2 b1), .mem (.abs (wordOf b2 b1)), 3⟩,
   ⟨0x3E, .rolAbsx (wordOf b2 b1), .mem (.absx (wordOf b2 b1)), 3⟩]

/-- The encoded forms of ROR (R133). -/
def Forms.ror (b1 b2 : Byte) : List (EncodedForm Place) :=
  [⟨0x6A, .rorAcc, .acc, 1⟩,
   ⟨0x66, .rorZp b1, .mem (.zp b1), 2⟩,
   ⟨0x76, .rorZpx b1, .mem (.zpx b1), 2⟩,
   ⟨0x6E, .rorAbs (wordOf b2 b1), .mem (.abs (wordOf b2 b1)), 3⟩,
   ⟨0x7E, .rorAbsx (wordOf b2 b1), .mem (.absx (wordOf b2 b1)), 3⟩]

/-- The encoded forms of INC (R190). -/
def Forms.inc (b1 b2 : Byte) : List (EncodedForm Place) :=
  [⟨0xE6, .incZp b1, .mem (.zp b1), 2⟩,
   ⟨0xF6, .incZpx b1, .mem (.zpx b1), 2⟩,
   ⟨0xEE, .incAbs (wordOf b2 b1), .mem (.abs (wordOf b2 b1)), 3⟩,
   ⟨0xFE, .incAbsx (wordOf b2 b1), .mem (.absx (wordOf b2 b1)), 3⟩]

/-- The encoded forms of DEC (R191). -/
def Forms.dec (b1 b2 : Byte) : List (EncodedForm Place) :=
  [⟨0xC6, .decZp b1, .mem (.zp b1), 2⟩,
   ⟨0xD6, .decZpx b1, .mem (.zpx b1), 2⟩,
   ⟨0xCE, .decAbs (wordOf b2 b1), .mem (.abs (wordOf b2 b1)), 3⟩,
   ⟨0xDE, .decAbsx (wordOf b2 b1), .mem (.absx (wordOf b2 b1)), 3⟩]

/-- The encoded forms of STA (R173). -/
def Forms.sta (b1 b2 : Byte) : List (EncodedForm MemMode) :=
  [⟨0x85, .staZp b1, .zp b1, 2⟩,
   ⟨0x95, .staZpx b1, .zpx b1, 2⟩,
   ⟨0x8D, .staAbs (wordOf b2 b1), .abs (wordOf b2 b1), 3⟩,
   ⟨0x9D, .staAbsx (wordOf b2 b1), .absx (wordOf b2 b1), 3⟩,
   ⟨0x99, .staAbsy (wordOf b2 b1), .absy (wordOf b2 b1), 3⟩,
   ⟨0x81, .staIndx b1, .indx b1, 2⟩,
   ⟨0x91, .staIndy b1, .indy b1, 2⟩]

/-- The encoded forms of STX (R174). -/
def Forms.stx (b1 b2 : Byte) : List (EncodedForm MemMode) :=
  [⟨0x86, .stxZp b1, .zp b1, 2⟩,
   ⟨0x96, .stxZpy b1, .zpy b1, 2⟩,
   ⟨0x8E, .stxAbs (wordOf b2 b1), .abs (wordOf b2 b1), 3⟩]

/-- The encoded forms of STY (R175). -/
def Forms.sty (b1 b2 : Byte) : List (EncodedForm MemMode) :=
  [⟨0x84, .styZp b1, .zp b1, 2⟩,
   ⟨0x94, .styZpx b1, .zpx b1, 2⟩,
   ⟨0x8C, .styAbs (wordOf b2 b1), .abs (wordOf b2 b1), 3⟩]

/-- The 105 unknown opcode bytes, row by row as R58 lists them. -/
def Forms.unknownOpcodes : List Byte :=
  [0x02, 0x03, 0x04, 0x07, 0x0B, 0x0C, 0x0F,
   0x12, 0x13, 0x14, 0x17, 0x1A, 0x1B, 0x1C, 0x1F,
   0x22, 0x23, 0x27, 0x2B, 0x2F,
   0x32, 0x33, 0x34, 0x37, 0x3A, 0x3B, 0x3C, 0x3F,
   0x42, 0x43, 0x44, 0x47, 0x4B, 0x4F,
   0x52, 0x53, 0x54, 0x57, 0x5A, 0x5B, 0x5C, 0x5F,
   0x62, 0x63, 0x64, 0x67, 0x6B, 0x6F,
   0x72, 0x73, 0x74, 0x77, 0x7A, 0x7B, 0x7C, 0x7F,
   0x80, 0x82, 0x83, 0x87, 0x89, 0x8B, 0x8F,
   0x92, 0x93, 0x97, 0x9B, 0x9C, 0x9E, 0x9F,
   0xA3, 0xA7, 0xAB, 0xAF,
   0xB2, 0xB3, 0xB7, 0xBB, 0xBF,
   0xC2, 0xC3, 0xC7, 0xCB, 0xCF,
   0xD2, 0xD3, 0xD4, 0xD7, 0xDA, 0xDB, 0xDC, 0xDF,
   0xE2, 0xE3, 0xE7, 0xEB, 0xEF,
   0xF2, 0xF3, 0xF4, 0xF7, 0xFA, 0xFB, 0xFC, 0xFF]

/-- `t` differs from `s` in memory at most at `ea`, which holds `v`. -/
def StoresByte (s t : State) (ea : Word) (v : Byte) : Prop :=
  t.read ea = v ∧ ∀ b, b ≠ ea → t.read b = s.read b

/-- `t` is `u` with the result written back where the operand of `s` came from (R8): to A, or to the one
byte at the operand's effective address. `u` is `s` with the flags and PC of after. -/
def WritesBack (s t u : State) (o : Place) (res : Byte) : Prop :=
  match o with
  | .acc => t = { u with a := res }
  | .mem m => StoresByte s t (effectiveAddress s m) res ∧ { t with mem := s.mem } = u

/-- A handler that uses `op.val`, given the operand record (R86). -/
def giveVal (h : Byte → State → HandlerResult) (op : OperandRecord) (s : State) :
    Option HandlerResult :=
  op.val.map fun v => h v s

/-- A handler that uses `op.val` and writes back to `op.wb`, given the operand record (R85, R86). -/
def giveBoth (h : Target → Byte → State → HandlerResult) (op : OperandRecord) (s : State) :
    Option HandlerResult :=
  op.wb.bind fun t => op.val.map fun v => h t v s

/-- A handler that uses only `EA(op)`, given the operand record (R8, R86). -/
def giveAddress (h : Word → State → HandlerResult) (op : OperandRecord) (s : State) :
    Option HandlerResult :=
  (op.wb.bind Target.ea).map fun ea => h ea s

/-- `Handler[mnemonic](state, op)` (R90, R93): the handler of each mnemonic, given the operand record's
fields that R86 says it uses; none where the record lacks one. -/
def handlerFor (mn : Mnemonic) (op : OperandRecord) (s : State) : Option HandlerResult :=
  match mn with
  | .adc => giveVal handleAdc op s
  | .sbc => giveVal handleSbc op s
  | .cmp => giveVal handleCmp op s
  | .cpx => giveVal handleCpx op s
  | .cpy => giveVal handleCpy op s
  | .and => giveVal handleAnd op s
  | .ora => giveVal handleOra op s
  | .eor => giveVal handleEor op s
  | .bit => giveVal handleBit op s
  | .asl => giveBoth handleAsl op s
  | .lsr => giveBoth handleLsr op s
  | .rol => giveBoth handleRol op s
  | .ror => giveBoth handleRor op s
  | .bcc => giveVal handleBcc op s
  | .bcs => giveVal handleBcs op s
  | .beq => giveVal handleBeq op s
  | .bne => giveVal handleBne op s
  | .bmi => giveVal handleBmi op s
  | .bpl => giveVal handleBpl op s
  | .bvc => giveVal handleBvc op s
  | .bvs => giveVal handleBvs op s
  | .jmp => giveAddress handleJmp op s
  | .jsr => giveAddress handleJsr op s
  | .rts => some (handleRts s)
  | .clc => some (handleClc s)
  | .cld => some (handleCld s)
  | .cli => some (handleCli s)
  | .clv => some (handleClv s)
  | .sec => some (handleSec s)
  | .sed => some (handleSed s)
  | .sei => some (handleSei s)
  | .lda => giveVal handleLda op s
  | .ldx => giveVal handleLdx op s
  | .ldy => giveVal handleLdy op s
  | .sta => giveAddress handleSta op s
  | .stx => giveAddress handleStx op s
  | .sty => giveAddress handleSty op s
  | .tax => some (handleTax s)
  | .tay => some (handleTay s)
  | .txa => some (handleTxa s)
  | .tya => some (handleTya s)
  | .tsx => some (handleTsx s)
  | .txs => some (handleTxs s)
  | .inc => giveBoth handleInc op s
  | .dec => giveBoth handleDec op s
  | .inx => some (handleInx s)
  | .iny => some (handleIny s)
  | .dex => some (handleDex s)
  | .dey => some (handleDey s)
  | .pha => some (handlePha s)
  | .php => some (handlePhp s)
  | .pla => some (handlePla s)
  | .plp => some (handlePlp s)
  | .brk => some (handleBrk s)
  | .rti => some (handleRti s)
  | .nop => some (handleNop s)

/-- Run instructions one after another, without a fetch. -/
def execAll : List Instr → State → Result
  | [], s => .next s
  | i :: rest, s =>
    match exec i s with
    | .next t => execAll rest t
    | .fault f => .fault f
    | .refused r => .refused r

end Sys2Proof

open Sys2Proof Sys2Proof.Machine

/-! ## Encoding -/

/-- Decoding an encoded instruction gives it back, whatever bytes follow (R51, R54, R57). Every instruction
is well-formed (R57, R59), so no premise is needed. -/
def Obligations.DecodeOfEncodeIsTheInstruction : Prop :=
  ∀ (i : Instr) (rest : List Byte), decode (encode i ++ rest) = .ok (i, rest)

/-- Encoding what the decoder read gives the bytes back: no operand bit is dropped and no two encodings
share an instruction (R51, R54, R59). -/
def Obligations.EncodeOfDecodeIsTheBytes : Prop :=
  ∀ (bytes rest : List Byte) (i : Instr), decode bytes = .ok (i, rest) → encode i ++ rest = bytes

/-- The decoder refuses exactly the 105 bytes R58 lists, by name, whatever bytes follow. -/
def Obligations.DecodeRefusesExactlyUnknownOpcodes : Prop :=
  ∀ (opc : Byte) (rest : List Byte),
    decode (opc :: rest) = .error (.unknownOpcode opc) ↔ opc ∈ Forms.unknownOpcodes

/-- The length of an instruction is 1, 2 or 3, fixed by its mode, and is one more than the number of its
operand bytes, which is its format (R52; the lengths other than those of implicit and relative mode the spec
marks as its own inference, derived from R50). The decoder takes exactly that many bytes; they are the length
of the mode of the row the first byte selects; a byte without a row decodes to nothing; and the length depends
on the first byte alone (R53). -/
def Obligations.ModeFixesTheLength : Prop :=
  (∀ i : Instr, i.length =
    if i.mode ∈ [Mode.imp, .acc] then 1
    else if i.mode ∈ [Mode.imm, .zp, .zpx, .zpy, .indx, .indy, .rel] then 2 else 3) ∧
  (∀ i : Instr, i.operand.bytes.length + 1 = i.length) ∧
  (∀ (bytes rest : List Byte) (i : Instr),
    decode bytes = .ok (i, rest) → bytes.length = i.length + rest.length) ∧
  (∀ (opc : Byte) (r : Row) (x rest : List Byte) (i : Instr),
    lookup opc = some r → decode (opc :: x) = .ok (i, rest) → i.length = r.mode.length) ∧
  (∀ (opc : Byte) (x : List Byte),
    lookup opc = none → decode (opc :: x) = .error (.unknownOpcode opc)) ∧
  (∀ (opc : Byte) (x y rx ry : List Byte) (i j : Instr),
    decode (opc :: x) = .ok (i, rx) → decode (opc :: y) = .ok (j, ry) → i.length = j.length)

/-- Ten words written out from the encodings of R51 and R57, one or two per family, decode to the instruction
they stand for (the examples of R60, and R110 to R206); the byte 0x89, which has no row, is refused by name
(R58); and JSR's first two bytes alone are refused as truncated, which is the model's choice (DESIGN CHOICE,
log 5): no rule names what an incomplete byte sequence decodes to, and no step meets one. -/
def Obligations.WordsDecodeAsTheMapSays : Prop :=
  decode [0x29, 0x19] = .ok (.andImm 0x19, []) ∧
  decode [0xBD, 0x00, 0x44] = .ok (.ldaAbsx 0x4400, []) ∧
  decode [0x96, 0x10] = .ok (.stxZpy 0x10, []) ∧
  decode [0x71, 0x20] = .ok (.adcIndy 0x20, []) ∧
  decode [0x6A] = .ok (.rorAcc, []) ∧
  decode [0x90, 0xFE] = .ok (.bcc 0xFE, []) ∧
  decode [0x6C, 0x97, 0x55] = .ok (.jmpInd 0x5597, []) ∧
  decode [0xB8] = .ok (.clv, []) ∧
  decode [0xDE, 0x34, 0x12] = .ok (.decAbsx 0x1234, []) ∧
  decode [0x00] = .ok (.brk, []) ∧
  decode [0x89] = .error (.unknownOpcode 0x89) ∧
  decode [0x20, 0x10] = .error .truncated

/-- The instruction at PC holds the byte at PC as its opcode and the following bytes of memory, with 16-bit
wrap, as its operand bytes (R50, R54, R70). -/
def Obligations.FetchReadsTheBytesAtPc : Prop :=
  ∀ (s : State) (i : Instr), s.fetch = some i →
    encode i = [s.read s.pc, s.read (s.pc + 1), s.read (s.pc + 2)].take i.length

/-! ## The step -/

/-- When the bytes at PC decode to a well-formed instruction, the step is that instruction's `exec`, which
holds Resolve, Dispatch and Advance (R90); the step adds nothing around it. -/
def Obligations.StepRunsTheDecodedInstruction : Prop :=
  ∀ (s : State) (i : Instr) (rest : List Byte),
    decode [s.read s.pc, s.read (s.pc + 1), s.read (s.pc + 2)] = .ok (i, rest) →
    i.wellFormed = true → step s = exec i s

/-- Every instruction answers a next state in every state, with every operand: no handler can fail
(R95, R220). -/
def Obligations.EveryInstructionCompletes : Prop :=
  ∀ (i : Instr) (s : State), ∃ t, exec i s = .next t

/-- A step has exactly one of the outcomes of R95: it runs the instruction whose descriptor the opcode byte
has and answers the state its handler and Advance left, or it faults with `UnknownOpcode`, the address and
the byte; it never refuses. A fault holds no state: nothing changed. -/
def Obligations.StepHasTheOutcomesOfTheEngine : Prop :=
  ∀ s : State,
    (KnownOpcode s → ∃ i t, s.fetch = some i ∧ exec i s = .next t ∧ step s = .next t) ∧
    (¬ KnownOpcode s → step s = .fault (.unknownOpcode s.pc (s.read s.pc))) ∧
    (∀ r, step s ≠ .refused r)

/-- A step faults exactly when the byte at PC is one of the 105 of R58, whatever the rest of the state is,
and the fault records PC and the byte (R91, R221; the unchanged PC is the spec's decision D11). -/
def Obligations.StepFaultsExactlyOnUnknownOpcodes : Prop :=
  ∀ (s : State) (f : Fault),
    step s = .fault f ↔
      s.read s.pc ∈ Forms.unknownOpcodes ∧ f = .unknownOpcode s.pc (s.read s.pc)

/-- A step depends on the registers, the flags and the 65536 bytes alone (R99): from two states that agree
on them, however their memories are listed, it gives the same outcome, and states that agree on them. -/
def Obligations.StepDependsOnRegistersFlagsAndBytes : Prop :=
  ∀ s s' : State, s.snapshot = s'.snapshot → (∀ a, s.read a = s'.read a) →
    (∀ t, step s = .next t →
      ∃ t', step s' = .next t' ∧ t.snapshot = t'.snapshot ∧ ∀ a, t.read a = t'.read a) ∧
    (∀ f, step s = .fault f → step s' = .fault f)

/-- Advance adds the length exactly on `fallthrough`, and leaves PC as the handler wrote it on `retarget`,
even to the instruction's own address (R93, R94): a JMP and a taken branch to themselves stay. -/
def Obligations.AdvanceFollowsTheSignal : Prop :=
  (∀ (s : State) (n : Nat),
    (HandlerResult.fallthrough s).advance n = .next { s with pc := s.pc + BitVec.ofNat 16 n } ∧
    (HandlerResult.retarget s).advance n = .next s) ∧
  (∀ s : State, exec (.jmpAbs s.pc) s = .next s) ∧
  (∀ s : State, s.flagC = false → exec (.bcc 0xFE) s = .next s)

/-- Every instruction but the branches, JMP, JSR, RTS, RTI and BRK leaves PC at its own address plus its
length, modulo 65536 (R93, R94). -/
def Obligations.OtherInstructionsAdvanceByTheirLength : Prop :=
  ∀ (i : Instr) (s t : State), exec i s = .next t →
    i.mnemonic ∉ [Mnemonic.bcc, .bcs, .beq, .bne, .bmi, .bpl, .bvc, .bvs, .jmp, .jsr, .rts, .rti,
      .brk] →
    t.pc = s.pc + BitVec.ofNat 16 i.length

/-! ## Memory and its canonical form -/

/-- A write changes exactly the one byte addressed, and the byte reads as written (R31, R32). -/
def Obligations.ReadAfterWrite : Prop :=
  ∀ (s : State) (a b : Word) (v : Byte),
    (s.write a v).read b = if b = a then v else s.read b

/-- Two states with canonical memory are equal exactly when all twelve register and flag components and all
65536 memory bytes are equal (R28). -/
def Obligations.StatesAreEqualWhenAllComponentsAre : Prop :=
  ∀ s t : State, Inv s → Inv t →
    (s = t ↔ s.snapshot = t.snapshot ∧ ∀ a, s.read a = t.read a)

/-- Every step keeps the canonical form of memory. -/
def Obligations.StepKeepsTheCanonicalMemory : Prop :=
  ∀ s t : State, Inv s → step s = .next t → Inv t

/-- The canonical form holds after reset. -/
def Obligations.ResetHasCanonicalMemory : Prop := Inv State.reset

/-- The host's load of at most 65536 bytes keeps the canonical form, stores each byte at its address, and
changes no register, flag or other byte (R252); a launch has the registers and flags the host chose (R250).
That bytes past 0xFFFF land from 0x0000 on is the model's choice (DEDUCED, log 9): no rule says how the host's
addresses go on there. -/
def Obligations.HostLoadStoresTheBytes : Prop :=
  ∀ (s : State) (origin : Word) (bytes : List Byte), bytes.length ≤ 65536 →
    (Inv s → Inv (s.hostLoad origin bytes)) ∧
    (s.hostLoad origin bytes).snapshot = s.snapshot ∧
    (∀ (k : Nat) (v : Byte), bytes[k]? = some v →
      (s.hostLoad origin bytes).read (origin + BitVec.ofNat 16 k) = v) ∧
    (∀ b : Word, bytes.length ≤ (b - origin).toNat →
      (s.hostLoad origin bytes).read b = s.read b) ∧
    (∀ r : Snapshot, (State.launch r origin bytes).snapshot = r)

/-- An instruction placed at PC is the one the very next step runs, with no fence and no delay (R45, R255);
here it is placed with the host's load (R252). -/
def Obligations.PlacedInstructionRunsNext : Prop :=
  ∀ (s : State) (nbits w : Nat) (i : Instr), decodeTableWord nbits w = some i →
    step (s.withFetchWord nbits w) = exec i (s.withFetchWord nbits w)

/-- The 16-bit read inside one page takes its low byte at the address and its high byte at
`(addr & 0xFF00) | ((addr + 1) & 0x00FF)`, and equals the full read for an address whose low byte is not 0xFF
(R36). The indirect mode takes its address from it, and JMP alone has that mode and goes there; (zp,X) and
(zp),Y take theirs from the zero-page pointer read (for (zp),Y at base 0xFF, which the spec decides, see
WordReadsWrapAsTheirWidthSays), and the address of every other memory mode depends on no byte of memory, so no
other mode uses the read inside one page. -/
def Obligations.PageReadStaysInThePage : Prop :=
  ∀ (s : State) (a : Word),
    s.readPage16 a = wordOf (s.read ((a &&& 0xFF00) ||| ((a + 1) &&& 0x00FF))) (s.read a) ∧
    (lowByte a ≠ 0xFF → s.readPage16 a = s.read16 a) ∧
    (lowByte a = 0xFF → s.readPage16 a = wordOf (s.read (wordOf (highByte a) 0)) (s.read a)) ∧
    effectiveAddress s (.ind a) = s.readPage16 a ∧
    exec (.jmpInd a) s = .next { s with pc := s.readPage16 a } ∧
    (∀ i : Instr, i.mode = .ind → i.mnemonic = .jmp) ∧
    (∀ b : Byte, effectiveAddress s (.indx b) = s.readZp16 (b + s.x) ∧
      (b ≠ 0xFF → effectiveAddress s (.indy b) = s.readZp16 b + zext16 s.y)) ∧
    (∀ (m : MemMode) (other : Memory), m.mode ∉ [Mode.indx, .indy, .ind] →
      effectiveAddress { s with mem := other } m = effectiveAddress s m)

/-- The full 16-bit read wraps from 0xFFFF to 0x0000 (R34, decision D16); the zero-page pointer read takes
its high byte at the next address modulo 256 (R35), and (zp),Y reads its pointer so, even at base 0xFF
(decision D15), and adds Y with 16-bit wrap (R80). -/
def Obligations.WordReadsWrapAsTheirWidthSays : Prop :=
  ∀ (s : State) (a : Word) (zp : Byte),
    let ptr := wordOf (s.read (BitVec.ofNat 16 ((zp.toNat + 1) % 256)))
      (s.read (BitVec.ofNat 16 zp.toNat))
    let ea : Word := BitVec.ofNat 16 ((ptr.toNat + s.y.toNat) % 65536)
    s.read16 a = wordOf (s.read (BitVec.ofNat 16 ((a.toNat + 1) % 65536))) (s.read a) ∧
    s.readZp16 zp = ptr ∧
    resolve s (.mem (.indy zp)) = ⟨some (s.read ea), some (.mem ea)⟩

/-- The stack is page 1 (R14, decision D7): a push stores at 0x0100 + SP and decrements SP modulo 256,
changing nothing else; a pull increments SP modulo 256 and reads at 0x0100 + SP, changing nothing else. -/
def Obligations.StackLivesInPageOne : Prop :=
  ∀ (s : State) (v : Byte),
    StoresByte s (s.push v) (BitVec.ofNat 16 (0x0100 + s.sp.toNat)) v ∧
    { s.push v with mem := s.mem } =
      { s with sp := BitVec.ofNat 8 ((s.sp.toNat + 255) % 256) } ∧
    s.pull.2 = { s with sp := BitVec.ofNat 8 ((s.sp.toNat + 1) % 256) } ∧
    s.pull.1 = s.read (BitVec.ofNat 16 (0x0100 + (s.sp.toNat + 1) % 256))

/-! ## Addressing modes -/

/-- The operand record of each mode but (zp),Y, with its effective address and where it wraps (R71 to R79,
R81 to R83); `b1` and `b2` are the operand bytes, which are those at PC + 1 and PC + 2 with 16-bit wrap, and
a branch uses its target only when its condition holds. -/
def Obligations.ModesResolveAsStated : Prop :=
  ∀ (s : State) (b1 b2 : Byte),
    let at16 (n : Nat) : Word := BitVec.ofNat 16 n
    let addr : Nat := b2.toNat * 256 + b1.toNat
    let p : Nat := (b1.toNat + s.x.toNat) % 256
    let mem (ea : Word) : OperandRecord := ⟨some (s.read ea), some (.mem ea)⟩
    (resolve s .imp = ⟨none, none⟩ ∧ Mode.imp.length = 1) ∧
    resolve s (.imm b1) = ⟨some b1, none⟩ ∧
    resolve s (.mem (.zp b1)) = mem (at16 b1.toNat) ∧
    resolve s (.mem (.zpx b1)) = mem (at16 p) ∧
    resolve s (.mem (.zpy b1)) = mem (at16 ((b1.toNat + s.y.toNat) % 256)) ∧
    resolve s (.mem (.abs (wordOf b2 b1))) = mem (at16 addr) ∧
    resolve s (.mem (.absx (wordOf b2 b1))) = mem (at16 ((addr + s.x.toNat) % 65536)) ∧
    resolve s (.mem (.absy (wordOf b2 b1))) = mem (at16 ((addr + s.y.toNat) % 65536)) ∧
    resolve s (.mem (.indx b1)) =
      mem (wordOf (s.read (at16 ((p + 1) % 256))) (s.read (at16 p))) ∧
    resolve s (.mem (.ind (wordOf b2 b1))) =
      ⟨none, some (.mem (wordOf
        (s.read (at16 (b2.toNat * 256 + (b1.toNat + 1) % 256))) (s.read (at16 addr))))⟩ ∧
    (resolve s (.rel b1) = ⟨some b1, none⟩ ∧
      ∀ pc : Word, branchTarget pc b1 = BitVec.ofInt 16 (pc.toNat + 2 + b1.toInt)) ∧
    (branch true b1 s = .retarget { s with pc := branchTarget s.pc b1 } ∧
      branch false b1 s = .fallthrough s) ∧
    resolve s .acc = ⟨some s.a, some .acc⟩ ∧
    (∀ i : Instr, i.mode = .zpy → i.mnemonic ∈ [Mnemonic.ldx, .stx]) ∧
    (∀ i : Instr, i.mode = .ind → i = .jmpInd (wordOf (i.operand.bytes.getD 1 0)
      (i.operand.bytes.getD 0 0))) ∧
    (∀ i : Instr, i.mode = .acc → i ∈ [Instr.aslAcc, .lsrAcc, .rolAcc, .rorAcc]) ∧
    (∀ i : Instr, s.fetch = some i →
      i.operand.bytes = [s.read (s.pc + 1), s.read (s.pc + 2)].take (i.length - 1))

/-- A step is Resolve, then the handler of the mnemonic on the record Resolve returned and the state, then
Advance by the length of the mode (R90, R92, R93), for every instruction and in every state. The handler is
given the fields `handlerFor` names (R86; that stores and jumps take the effective address alone is the spec's
decision D14). The record's value is that of every operand whose mode delivers a byte, and its write-back
target that of every memory or accumulator operand (R85). -/
def Obligations.HandlersGetTheResolvedOperand : Prop :=
  (∀ (i : Instr) (s : State), ∃ r,
    handlerFor i.mnemonic (resolve s i.operand) s = some r ∧ exec i s = r.advance i.mode.length) ∧
  ∀ s : State,
    (∀ m : MemMode, (resolve s (.mem m)).wb = some (.mem (effectiveAddress s m))) ∧
    (∀ o : Source, o.operand.mode ≠ .ind →
      (resolve s o.operand).val = some (sourceVal s o)) ∧
    (∀ o : Place, o.operand.mode ≠ .ind →
      resolve s o.operand = ⟨some (placeVal s o), some (placeTarget s o)⟩)

/-! ## Arithmetic and compare -/

/-- ADC (R110), every form: the sum with carry modulo 256 to A, C the unsigned carry, V exactly when A and
the operand have the same sign and the result another, N and Z from the result; everything else but PC is
unchanged. -/
def Obligations.AdcAddsWithCarry : Prop :=
  ∀ (s : State) (b1 b2 : Byte), ∀ f ∈ Forms.adc b1 b2,
    let m := sourceVal s f.operand
    let sum := s.a.toNat + m.toNat + s.flagC.toNat
    let res : Byte := BitVec.ofNat 8 (sum % 256)
    decodeBytes f.opcode b1 b2 = some f.instr ∧
    exec f.instr s = .next { s with
      a := res
      flagC := decide (256 ≤ sum)
      flagV := decide (s.a.msb = m.msb ∧ res.msb ≠ s.a.msb)
      flagN := res.msb
      flagZ := decide (res = 0)
      pc := s.pc + f.length }

/-- SBC, every form (rule R111, from the spec's general knowledge, decision D3): A - M - (1 - C) modulo 256
to A, C true exactly when there is no borrow, V exactly when A and M differ in sign and the result's sign
is not A's, N and Z from the result; everything else but PC is unchanged. -/
def Obligations.SbcSubtractsWithBorrow : Prop :=
  ∀ (s : State) (b1 b2 : Byte), ∀ f ∈ Forms.sbc b1 b2,
    let m := sourceVal s f.operand
    let diff : Int := s.a.toNat - m.toNat - (1 - s.flagC.toNat)
    let res : Byte := BitVec.ofInt 8 diff
    decodeBytes f.opcode b1 b2 = some f.instr ∧
    exec f.instr s = .next { s with
      a := res
      flagC := decide (0 ≤ diff)
      flagV := decide (s.a.msb ≠ m.msb ∧ res.msb ≠ s.a.msb)
      flagN := res.msb
      flagZ := decide (res = 0)
      pc := s.pc + f.length }

/-- V of ADC and SBC is the two's-complement overflow (R110, R115; SBC by R111, decision D3): true exactly
when the signed result lies outside -128..127. -/
def Obligations.OverflowIsSignedOverflow : Prop :=
  ∀ (s : State) (m : Byte), ∃ t u,
    exec (.adcImm m) s = .next t ∧ exec (.sbcImm m) s = .next u ∧
    (t.flagV = true ↔
      s.a.toInt + m.toInt + s.flagC.toNat < -128 ∨ 127 < s.a.toInt + m.toInt + s.flagC.toNat) ∧
    (u.flagV = true ↔
      s.a.toInt - m.toInt - (1 - s.flagC.toNat) < -128 ∨
        127 < s.a.toInt - m.toInt - (1 - s.flagC.toNat))

/-- CMP, CPX, CPY (R112 to R114), every form: C from the unsigned comparison, Z from equality, N bit 7 of
the 8-bit difference; the register, V and everything else but PC are unchanged. -/
def Obligations.ComparesSetCarryZeroNegative : Prop :=
  ∀ (s : State) (b1 b2 : Byte),
    ∀ q ∈ [(s.a, Forms.cmp b1 b2), (s.x, Forms.cpx b1 b2), (s.y, Forms.cpy b1 b2)], ∀ f ∈ q.2,
    let m := sourceVal s f.operand
    let t : Byte := BitVec.ofInt 8 ((q.1.toNat : Int) - m.toNat)
    decodeBytes f.opcode b1 b2 = some f.instr ∧
    exec f.instr s = .next { s with
      flagC := decide (m.toNat ≤ q.1.toNat)
      flagZ := decide (q.1 = m)
      flagN := t.msb
      pc := s.pc + f.length }

/-! ## Logical and bit test -/

/-- AND, ORA, EOR (R120 to R122), every form: the bitwise result to A, N and Z from it; C, V and everything
else but PC are unchanged. -/
def Obligations.LogicalInstructionsCombineBits : Prop :=
  ∀ (s : State) (b1 b2 : Byte),
    ∀ q ∈ [((fun k m => k && m : Bool → Bool → Bool), Forms.and b1 b2),
           ((fun k m => k || m : Bool → Bool → Bool), Forms.ora b1 b2),
           ((fun k m => k != m : Bool → Bool → Bool), Forms.eor b1 b2)], ∀ f ∈ q.2,
    decodeBytes f.opcode b1 b2 = some f.instr ∧
    ∃ res : Byte,
      (∀ k, k < 8 →
        res.getLsbD k = q.1 (s.a.getLsbD k) ((sourceVal s f.operand).getLsbD k)) ∧
      exec f.instr s = .next { s with
        a := res
        flagN := res.msb
        flagZ := decide (res = 0)
        pc := s.pc + f.length }

/-- BIT, both forms (rule R123, from the spec's general knowledge, decision D3): Z from A and M, N and V
bits 7 and 6 of M; A and everything else but PC are unchanged. -/
def Obligations.BitTestsMemoryAgainstA : Prop :=
  ∀ (s : State) (b1 b2 : Byte), ∀ f ∈ Forms.bit b1 b2,
    let m := sourceVal s f.operand
    decodeBytes f.opcode b1 b2 = some f.instr ∧
    exec f.instr s = .next { s with
      flagZ := decide (∀ k : Fin 8, ¬ (s.a.getLsbD k = true ∧ m.getLsbD k = true))
      flagN := m.getLsbD 7
      flagV := m.getLsbD 6
      pc := s.pc + f.length }

/-! ## Shift and rotate -/

/-- ASL (R130), every form: the value times two modulo 256, written back where the operand came from; C the
old bit 7, N and Z from the result; in a memory form every other byte and A are unchanged. -/
def Obligations.AslShiftsLeft : Prop :=
  ∀ (s : State) (b1 b2 : Byte), ∀ f ∈ Forms.asl b1 b2,
    let v := placeVal s f.operand
    let res : Byte := BitVec.ofNat 8 (v.toNat * 2 % 256)
    decodeBytes f.opcode b1 b2 = some f.instr ∧
    ∃ t, exec f.instr s = .next t ∧
      WritesBack s t { s with
        flagC := v.msb
        flagN := res.msb
        flagZ := decide (res = 0)
        pc := s.pc + f.length } f.operand res

/-- LSR, every form (rule R131, from the spec's general knowledge, decision D3): the value halved, C the old
bit 0, N false, Z from the result, written back as for ASL. -/
def Obligations.LsrShiftsRight : Prop :=
  ∀ (s : State) (b1 b2 : Byte), ∀ f ∈ Forms.lsr b1 b2,
    let v := placeVal s f.operand
    let res : Byte := BitVec.ofNat 8 (v.toNat / 2)
    decodeBytes f.opcode b1 b2 = some f.instr ∧
    ∃ t, exec f.instr s = .next t ∧
      WritesBack s t { s with
        flagC := decide (v.toNat % 2 = 1)
        flagN := false
        flagZ := decide (res = 0)
        pc := s.pc + f.length } f.operand res

/-- ROL, every form (rule R132, from the spec's general knowledge, decision D3): the old C enters bit 0, the
old bit 7 leaves into C, N and Z from the result, written back as for ASL. -/
def Obligations.RolRotatesLeftThroughCarry : Prop :=
  ∀ (s : State) (b1 b2 : Byte), ∀ f ∈ Forms.rol b1 b2,
    let v := placeVal s f.operand
    let res : Byte := BitVec.ofNat 8 (v.toNat * 2 % 256 + s.flagC.toNat)
    decodeBytes f.opcode b1 b2 = some f.instr ∧
    ∃ t, exec f.instr s = .next t ∧
      WritesBack s t { s with
        flagC := v.msb
        flagN := res.msb
        flagZ := decide (res = 0)
        pc := s.pc + f.length } f.operand res

/-- ROR, every form (rule R133, from the spec's general knowledge, decision D3): the old C enters bit 7, the
old bit 0 leaves into C, N is the old C, Z from the result, written back as for ASL. -/
def Obligations.RorRotatesRightThroughCarry : Prop :=
  ∀ (s : State) (b1 b2 : Byte), ∀ f ∈ Forms.ror b1 b2,
    let v := placeVal s f.operand
    let res : Byte := BitVec.ofNat 8 (v.toNat / 2 + 128 * s.flagC.toNat)
    decodeBytes f.opcode b1 b2 = some f.instr ∧
    ∃ t, exec f.instr s = .next t ∧
      WritesBack s t { s with
        flagC := decide (v.toNat % 2 = 1)
        flagN := s.flagC
        flagZ := decide (res = 0)
        pc := s.pc + f.length } f.operand res

/-- ROL and ROR are rotations of the nine bits of C and the value (rules R132, R133, decision D3): nine in
a row restore A and C. -/
def Obligations.NineRotationsRestore : Prop :=
  ∀ s : State, ∀ i ∈ [Instr.rolAcc, .rorAcc],
    ∃ t, execAll (List.replicate 9 i) s = .next t ∧ t.a = s.a ∧ t.flagC = s.flagC

/-! ## Control transfer -/

/-- The eight branches (R140 to R148): PC after is PC + 2 + the signed displacement modulo 65536 when the one
flag tested has the value named, and PC + 2 when not; nothing else changes. A taken branch signals
`retarget`, whatever its displacement, and one not taken `fallthrough`. -/
def Obligations.BranchesTestOneFlag : Prop :=
  ∀ (s : State) (d b2 : Byte),
    ∀ q ∈ [((0x90 : Byte), Instr.bcc d, s.flagC = false), (0xB0, .bcs d, s.flagC = true),
           (0xF0, .beq d, s.flagZ = true), (0xD0, .bne d, s.flagZ = false),
           (0x30, .bmi d, s.flagN = true), (0x10, .bpl d, s.flagN = false),
           (0x50, .bvc d, s.flagV = false), (0x70, .bvs d, s.flagV = true)],
    decodeBytes q.1 d b2 = some q.2.1 ∧
    (q.2.2 → exec q.2.1 s =
      .next { s with pc := BitVec.ofInt 16 ((s.pc.toNat : Int) + 2 + d.toInt) }) ∧
    (¬ q.2.2 → exec q.2.1 s = .next { s with pc := s.pc + 2 }) ∧
    (branch true d s =
      .retarget { s with pc := BitVec.ofInt 16 ((s.pc.toNat : Int) + 2 + d.toInt) } ∧
      branch false d s = .fallthrough s)

/-- JMP (rule R150, mnemonic and forms from the spec's general knowledge; the same-page quirk is R81's): PC
is the effective address; nothing else changes. -/
def Obligations.JmpGoesToTheEffectiveAddress : Prop :=
  ∀ (s : State) (b1 b2 : Byte),
    decodeBytes 0x4C b1 b2 = some (.jmpAbs (wordOf b2 b1)) ∧
    exec (.jmpAbs (wordOf b2 b1)) s = .next { s with pc := wordOf b2 b1 } ∧
    decodeBytes 0x6C b1 b2 = some (.jmpInd (wordOf b2 b1)) ∧
    exec (.jmpInd (wordOf b2 b1)) s = .next { s with
      pc := wordOf (s.read (wordOf b2 (b1 + 1))) (s.read (wordOf b2 b1)) }

/-- JSR (rule R151, decision D22): the address of its last byte is pushed, high byte at 0x0100 + SP, low
byte below it in page 1; SP is decreased by 2 modulo 256 and PC is the target; every other byte, register
and flag is unchanged. -/
def Obligations.JsrPushesItsLastByteAddress : Prop :=
  ∀ (s : State) (b1 b2 : Byte),
    decodeBytes 0x20 b1 b2 = some (.jsr (wordOf b2 b1)) ∧
    ∃ t, exec (.jsr (wordOf b2 b1)) s = .next t ∧
      t.read (stackAddr s.sp) = highByte (s.pc + 2) ∧
      t.read (stackAddr (s.sp - 1)) = lowByte (s.pc + 2) ∧
      (∀ b, b ≠ stackAddr s.sp → b ≠ stackAddr (s.sp - 1) → t.read b = s.read b) ∧
      { t with mem := s.mem } = { s with sp := s.sp - 2, pc := wordOf b2 b1 }

/-- RTS (rule R152, decision D22): PC is one more than the word pulled, low byte first; SP is increased by 2
modulo 256; nothing else changes. -/
def Obligations.RtsReturnsAfterTheJsr : Prop :=
  ∀ (s : State) (b1 b2 : Byte),
    decodeBytes 0x60 b1 b2 = some .rts ∧
    exec .rts s = .next { s with
      pc := wordOf (s.read (stackAddr (s.sp + 2))) (s.read (stackAddr (s.sp + 1))) + 1
      sp := s.sp + 2 }

/-- JSR and then RTS continue after the JSR with every register and flag as before it, and no byte outside
page 1 changed (rules R151, R152, decision D22). -/
def Obligations.JsrThenRtsComesBack : Prop :=
  ∀ (s : State) (w : Word), ∃ t,
    execAll [.jsr w, .rts] s = .next t ∧
    { t with mem := s.mem } = { s with pc := s.pc + 3 } ∧
    ∀ b, highByte b ≠ 0x01 → t.read b = s.read b

/-! ## Flag clear and flag set -/

/-- CLC, CLD, CLI, CLV (R160 to R163): exactly the named flag is false; nothing else but PC changes. -/
def Obligations.FlagClearsClearOneFlag : Prop :=
  ∀ (s : State) (b1 b2 : Byte),
    (decodeBytes 0x18 b1 b2 = some .clc ∧
      exec .clc s = .next { s with flagC := false, pc := s.pc + 1 }) ∧
    (decodeBytes 0xD8 b1 b2 = some .cld ∧
      exec .cld s = .next { s with flagD := false, pc := s.pc + 1 }) ∧
    (decodeBytes 0x58 b1 b2 = some .cli ∧
      exec .cli s = .next { s with flagI := false, pc := s.pc + 1 }) ∧
    (decodeBytes 0xB8 b1 b2 = some .clv ∧
      exec .clv s = .next { s with flagV := false, pc := s.pc + 1 })

/-- SEC, SED, SEI (rules R164 to R166, from the spec's general knowledge, decision D3): exactly the named
flag is true; nothing else but PC changes. -/
def Obligations.FlagSetsSetOneFlag : Prop :=
  ∀ (s : State) (b1 b2 : Byte),
    (decodeBytes 0x38 b1 b2 = some .sec ∧
      exec .sec s = .next { s with flagC := true, pc := s.pc + 1 }) ∧
    (decodeBytes 0xF8 b1 b2 = some .sed ∧
      exec .sed s = .next { s with flagD := true, pc := s.pc + 1 }) ∧
    (decodeBytes 0x78 b1 b2 = some .sei ∧
      exec .sei s = .next { s with flagI := true, pc := s.pc + 1 })

/-! ## Loads, stores, transfers -/

/-- LDA, LDX, LDY, every form (rules R170 to R172, from the spec's general knowledge, decision D3): the
operand byte to the register, N and Z from it; nothing else but PC changes. -/
def Obligations.LoadsSetRegisterNegativeZero : Prop :=
  ∀ (s : State) (b1 b2 : Byte),
    let done (f : EncodedForm Source) (load : Byte → State) : Prop :=
      let m := sourceVal s f.operand
      decodeBytes f.opcode b1 b2 = some f.instr ∧
      exec f.instr s = .next { load m with
        flagN := decide (128 ≤ m.toNat)
        flagZ := decide (m = 0)
        pc := s.pc + f.length }
    (∀ f ∈ Forms.lda b1 b2, done f (fun m => { s with a := m })) ∧
    (∀ f ∈ Forms.ldx b1 b2, done f (fun m => { s with x := m })) ∧
    (∀ f ∈ Forms.ldy b1 b2, done f (fun m => { s with y := m }))

/-- STA, STX, STY, every form (rules R173 to R175, from the spec's general knowledge, decision D3): the
register to the byte at the effective address; every other byte, every register and every flag are
unchanged, but PC. -/
def Obligations.StoresWriteOneByte : Prop :=
  ∀ (s : State) (b1 b2 : Byte),
    ∀ q ∈ [(s.a, Forms.sta b1 b2), (s.x, Forms.stx b1 b2), (s.y, Forms.sty b1 b2)], ∀ f ∈ q.2,
    decodeBytes f.opcode b1 b2 = some f.instr ∧
    ∃ t, exec f.instr s = .next t ∧
      StoresByte s t (effectiveAddress s f.operand) q.1 ∧
      { t with mem := s.mem } = { s with pc := s.pc + f.length }

/-- TAX, TAY, TXA, TYA, TSX copy a register and set N and Z from it, TXS copies X to SP and writes no flag
(rules R176 to R181, from the spec's general knowledge, decision D3); nothing else but PC changes. -/
def Obligations.TransfersCopyARegister : Prop :=
  ∀ (s : State) (b1 b2 : Byte),
    let nz (v : Byte) (t : State) : State :=
      { t with flagN := decide (128 ≤ v.toNat), flagZ := decide (v = 0), pc := s.pc + 1 }
    (decodeBytes 0xAA b1 b2 = some .tax ∧ exec .tax s = .next (nz s.a { s with x := s.a })) ∧
    (decodeBytes 0xA8 b1 b2 = some .tay ∧ exec .tay s = .next (nz s.a { s with y := s.a })) ∧
    (decodeBytes 0x8A b1 b2 = some .txa ∧ exec .txa s = .next (nz s.x { s with a := s.x })) ∧
    (decodeBytes 0x98 b1 b2 = some .tya ∧ exec .tya s = .next (nz s.y { s with a := s.y })) ∧
    (decodeBytes 0xBA b1 b2 = some .tsx ∧ exec .tsx s = .next (nz s.sp { s with x := s.sp })) ∧
    (decodeBytes 0x9A b1 b2 = some .txs ∧
      exec .txs s = .next { s with sp := s.x, pc := s.pc + 1 })

/-! ## Increment and decrement -/

/-- INC and DEC, every form (rules R190, R191, from the spec's general knowledge, decision D3): the byte at
the effective address plus or minus 1 modulo 256, N and Z from the result; C, V, the registers and every
other byte are unchanged, but PC. -/
def Obligations.MemoryIncrementsAndDecrementsWrap : Prop :=
  ∀ (s : State) (b1 b2 : Byte),
    ∀ q ∈ [((1 : Nat), Forms.inc b1 b2), (255, Forms.dec b1 b2)], ∀ f ∈ q.2,
    let res : Byte := BitVec.ofNat 8 (((placeVal s f.operand).toNat + q.1) % 256)
    decodeBytes f.opcode b1 b2 = some f.instr ∧
    ∃ t, exec f.instr s = .next t ∧
      WritesBack s t { s with
        flagN := res.msb
        flagZ := decide (res = 0)
        pc := s.pc + f.length } f.operand res

/-- INX, INY, DEX, DEY (rules R192 to R195, from the spec's general knowledge, decision D3): the register
plus or minus 1 modulo 256, N and Z from the result; C, V and everything else but PC are unchanged. -/
def Obligations.IndexIncrementsAndDecrementsWrap : Prop :=
  ∀ (s : State) (b1 b2 : Byte),
    let nz (v : Byte) (t : State) : State :=
      { t with flagN := v.msb, flagZ := decide (v = 0), pc := s.pc + 1 }
    let up (v : Byte) : Byte := BitVec.ofNat 8 ((v.toNat + 1) % 256)
    let down (v : Byte) : Byte := BitVec.ofNat 8 ((v.toNat + 255) % 256)
    (decodeBytes 0xE8 b1 b2 = some .inx ∧
      exec .inx s = .next (nz (up s.x) { s with x := up s.x })) ∧
    (decodeBytes 0xC8 b1 b2 = some .iny ∧
      exec .iny s = .next (nz (up s.y) { s with y := up s.y })) ∧
    (decodeBytes 0xCA b1 b2 = some .dex ∧
      exec .dex s = .next (nz (down s.x) { s with x := down s.x })) ∧
    (decodeBytes 0x88 b1 b2 = some .dey ∧
      exec .dey s = .next (nz (down s.y) { s with y := down s.y }))

/-! ## Stack and system -/

/-- The status byte (R24, decisions D5, D6): N V 1 1 D I Z C from bit 7 to bit 0, whatever B holds;
unpacking copies six bits and leaves B; packing what was unpacked gives the byte with bits 5 and 4 set. -/
def Obligations.StatusBytePacksTheFlags : Prop :=
  ∀ (s : State) (p : Byte),
    s.packP.toNat = 128 * s.flagN.toNat + 64 * s.flagV.toNat + 32 + 16 + 8 * s.flagD.toNat +
      4 * s.flagI.toNat + 2 * s.flagZ.toNat + s.flagC.toNat ∧
    (s.unpackP p).packP = p ||| 0x30 ∧
    s.unpackP p = { s with
      flagN := p.getLsbD 7, flagV := p.getLsbD 6, flagD := p.getLsbD 3, flagI := p.getLsbD 2,
      flagZ := p.getLsbD 1, flagC := p.getLsbD 0 }

/-- PHA and PHP (rules R200, R201, decisions D3, D5, D6): A, or the status byte, at 0x0100 + SP, SP
decreased by 1 modulo 256; no flag, other register or other byte changes, but PC. -/
def Obligations.PushesStoreOneStackByte : Prop :=
  ∀ (s : State) (b1 b2 : Byte),
    ∀ q ∈ [((0x48 : Byte), Instr.pha, s.a), (0x08, .php, s.packP)],
    decodeBytes q.1 b1 b2 = some q.2.1 ∧
    ∃ t, exec q.2.1 s = .next t ∧
      StoresByte s t (stackAddr s.sp) q.2.2 ∧
      { t with mem := s.mem } = { s with sp := s.sp - 1, pc := s.pc + 1 }

/-- PLA and PLP (rules R202, R203, decisions D3, D5, D6): the byte at 0x0100 + (SP + 1) to A with N and Z
from it, or to the six flags, B unchanged; SP increased by 1 modulo 256; nothing else but PC changes. -/
def Obligations.PullsLoadOneStackByte : Prop :=
  ∀ (s : State) (b1 b2 : Byte),
    let v := s.read (stackAddr (s.sp + 1))
    (decodeBytes 0x68 b1 b2 = some .pla ∧
      exec .pla s = .next { s with
        a := v, flagN := v.msb, flagZ := decide (v = 0), sp := s.sp + 1, pc := s.pc + 1 }) ∧
    (decodeBytes 0x28 b1 b2 = some .plp ∧
      exec .plp s = .next { s with
        flagN := v.getLsbD 7, flagV := v.getLsbD 6, flagD := v.getLsbD 3, flagI := v.getLsbD 2,
        flagZ := v.getLsbD 1, flagC := v.getLsbD 0, sp := s.sp + 1, pc := s.pc + 1 })

/-- BRK takes the software trap (rules R204, R229, decisions D6, D9, D25): PC + 2 high byte, low byte and
the status byte of the old flags are pushed, SP is decreased by 3 modulo 256, I and B are true, PC is the
word at 0xFFFE and 0xFFFF; A, X, Y, the other flags and every other byte are unchanged. -/
def Obligations.BrkTakesTheTrap : Prop :=
  ∀ (s : State) (b1 b2 : Byte),
    decodeBytes 0x00 b1 b2 = some .brk ∧
    ∃ t, exec .brk s = .next t ∧
      t.read (stackAddr s.sp) = highByte (s.pc + 2) ∧
      t.read (stackAddr (s.sp - 1)) = lowByte (s.pc + 2) ∧
      t.read (stackAddr (s.sp - 2)) = s.packP ∧
      (∀ b, b ≠ stackAddr s.sp → b ≠ stackAddr (s.sp - 1) → b ≠ stackAddr (s.sp - 2) →
        t.read b = s.read b) ∧
      { t with mem := s.mem } = { s with
        sp := s.sp - 3, flagI := true, flagB := true
        pc := wordOf (s.read 0xFFFF) (s.read 0xFFFE) }

/-- RTI returns (rules R205, R230, decisions D6, D9): the six flags from the first byte pulled, PC from the
next two, low byte first and with nothing added, SP increased by 3 modulo 256; B, A, X, Y and memory are
unchanged. -/
def Obligations.RtiReturnsFromTheTrap : Prop :=
  ∀ (s : State) (b1 b2 : Byte),
    let p := s.read (stackAddr (s.sp + 1))
    decodeBytes 0x40 b1 b2 = some .rti ∧
    exec .rti s = .next { s with
      flagN := p.getLsbD 7, flagV := p.getLsbD 6, flagD := p.getLsbD 3, flagI := p.getLsbD 2,
      flagZ := p.getLsbD 1, flagC := p.getLsbD 0, sp := s.sp + 3
      pc := wordOf (s.read (stackAddr (s.sp + 3))) (s.read (stackAddr (s.sp + 2))) }

/-- BRK and then RTI continue two bytes after the BRK with every register and flag as before it but B, which
stays true, and no byte outside page 1 changed (R230; decisions D6, D9, D25). -/
def Obligations.BrkThenRtiComesBack : Prop :=
  ∀ s : State, ∃ t,
    execAll [.brk, .rti] s = .next t ∧
    { t with mem := s.mem } = { s with pc := s.pc + 2, flagB := true } ∧
    ∀ b, highByte b ≠ 0x01 → t.read b = s.read b

/-- NOP (rule R206, from the spec's general knowledge, decision D3): only PC changes, by 1 modulo 65536, and
0xEA is its one encoding. -/
def Obligations.NopOnlyAdvances : Prop :=
  (∀ s : State, exec .nop s = .next { s with pc := BitVec.ofNat 16 ((s.pc.toNat + 1) % 65536) }) ∧
  (∀ opc b1 b2 : Byte, decodeBytes opc b1 b2 = some .nop ↔ opc = 0xEA)

/-! ## Whole-machine rules -/

/-- Each flag but B changes only by the instructions the rules R17, R18, R20 to R23 list for it (R16; the
entries of tiers N and G are the spec's general knowledge, decision D3). -/
def Obligations.FlagsChangeOnlyByTheirInstructions : Prop :=
  ∀ (i : Instr) (s t : State), exec i s = .next t →
    (i.mnemonic ∉ [Mnemonic.adc, .sbc, .and, .ora, .eor, .asl, .lsr, .rol, .ror, .cmp, .cpx, .cpy,
        .lda, .ldx, .ldy, .tax, .tay, .txa, .tya, .tsx, .inc, .dec, .inx, .iny, .dex, .dey, .pla,
        .bit, .plp, .rti] → t.flagN = s.flagN ∧ t.flagZ = s.flagZ) ∧
    (i.mnemonic ∉ [Mnemonic.adc, .sbc, .bit, .clv, .plp, .rti] → t.flagV = s.flagV) ∧
    (i.mnemonic ∉ [Mnemonic.cld, .sed, .plp, .rti] → t.flagD = s.flagD) ∧
    (i.mnemonic ∉ [Mnemonic.cli, .sei, .brk, .plp, .rti] → t.flagI = s.flagI) ∧
    (i.mnemonic ∉ [Mnemonic.adc, .asl, .cmp, .cpx, .cpy, .clc, .sbc, .lsr, .rol, .ror, .sec, .plp,
        .rti] → t.flagC = s.flagC)

/-- B is set by BRK, changed by no other instruction and cleared by none, and no instruction's effect
depends on it (R19, decision D6). -/
def Obligations.BreakFlagIsSetByBrkAndReadByNone : Prop :=
  ∀ (i : Instr) (s t : State), exec i s = .next t →
    t.flagB = (s.flagB || decide (i.mnemonic = .brk)) ∧
    ∀ e : Bool, ∃ u, exec i { s with flagB := e } = .next u ∧ { u with flagB := t.flagB } = t

/-- D and I have no effect but through PHP and BRK, which push them (R20, R21, R116; decisions D4, D8): any
other instruction, from a state with another D or I, ends in the same state but for D and I. -/
def Obligations.DecimalAndInterruptFlagsAreInert : Prop :=
  ∀ (i : Instr) (s t : State), exec i s = .next t → i.mnemonic ∉ [Mnemonic.php, .brk] →
    ∀ d e : Bool, ∃ u, exec i { s with flagD := d, flagI := e } = .next u ∧
      { u with flagD := t.flagD, flagI := t.flagI } = t

/-- A, X, Y and SP change only by the instructions R11 and R12 list for them (the entries of tiers N and G
are the spec's general knowledge, decision D3). -/
def Obligations.RegistersChangeOnlyByTheirInstructions : Prop :=
  ∀ (i : Instr) (s t : State), exec i s = .next t →
    (i.mnemonic ∉ [Mnemonic.adc, .sbc, .and, .ora, .eor, .lda, .txa, .tya, .pla] →
      i.mode ≠ .acc → t.a = s.a) ∧
    (i.mnemonic ∉ [Mnemonic.ldx, .tax, .tsx, .inx, .dex] → t.x = s.x) ∧
    (i.mnemonic ∉ [Mnemonic.ldy, .tay, .iny, .dey] → t.y = s.y) ∧
    (i.mnemonic ∉ [Mnemonic.pha, .php, .pla, .plp, .jsr, .rts, .brk, .rti, .txs] → t.sp = s.sp)

/-- A byte of memory changes only at the effective address of a store, shift, rotate, INC or DEC, or in the
stack page under PHA, PHP, JSR or BRK (R39; the instructions of tiers N and G and the stack page are the
spec's general knowledge, decisions D3, D7). -/
def Obligations.MemoryChangesOnlyWhereWritten : Prop :=
  ∀ (i : Instr) (s t : State) (b : Word), exec i s = .next t → t.read b ≠ s.read b →
    (i.mnemonic ∈ [Mnemonic.sta, .stx, .sty, .asl, .lsr, .rol, .ror, .inc, .dec] ∧
      ∃ m, i.operand = .mem m ∧ effectiveAddress s m = b) ∨
    (i.mnemonic ∈ [Mnemonic.pha, .php, .jsr, .brk] ∧ highByte b = 0x01)

/-! ## Reset and what the host receives -/

/-- State.reset, the model's choice (DESIGN CHOICE, log 1 and log 2; the spec states no reset value): every
register 0, every flag false, every byte 0. -/
def Obligations.ResetIsAllZeroByChoice : Prop :=
  State.reset.snapshot =
    ⟨0, 0, 0, 0, 0, false, false, false, false, false, false, false⟩ ∧
  ∀ a : Word, State.reset.read a = 0
end

