-- ==== Sys2Proof/Laws/Decode.lean ====
section
/-! SUPPORT. The decoder: the halves of a word, and when three bytes hold an instruction. -/

namespace Sys2Proof

@[simp] theorem getLsbD_wordOf (hi lo : Byte) (k : Nat) :
    (wordOf hi lo).getLsbD k = if k < 8 then lo.getLsbD k else hi.getLsbD (k - 8) :=
  BitVec.getLsbD_append

@[simp] theorem lowByte_wordOf (hi lo : Byte) : lowByte (wordOf hi lo) = lo := by
  apply BitVec.eq_of_getLsbD_eq
  intro k hk
  simp [lowByte, hk]

@[simp] theorem highByte_wordOf (hi lo : Byte) : highByte (wordOf hi lo) = hi := by
  apply BitVec.eq_of_getLsbD_eq
  intro k hk
  simp [highByte, hk]

@[simp] theorem wordOf_highByte_lowByte (w : Word) : wordOf (highByte w) (lowByte w) = w := by
  apply BitVec.eq_of_getLsbD_eq
  intro k hk
  by_cases h : k < 8
  · simp [lowByte, h]
  · have h8 : k - 8 < 8 := by omega
    have hk' : 8 + (k - 8) = k := by omega
    simp [highByte, h, h8, hk']

/-- A format reads its operand from any two bytes or more. -/
theorem Form.read_isOk (f : Form) (b1 b2 : Byte) (rest : List Byte) :
    ∃ p, f.read (b1 :: b2 :: rest) = .ok p := by
  cases f <;> exact ⟨_, rfl⟩

/-- Decoding reads the operand bytes of the row the first byte selects. -/
theorem decode_of_lookup {opc : Byte} {r : Row} (h : lookup opc = some r) (bytes : List Byte) :
    decode (opc :: bytes) = r.form.read bytes := by
  simp [decode, h]

/-- Without a row the decoder refuses by the byte's name. -/
theorem decode_of_lookup_none {opc : Byte} (h : lookup opc = none) (bytes : List Byte) :
    decode (opc :: bytes) = .error (.unknownOpcode opc) := by
  simp [decode, h]

/-- Three bytes hold an instruction exactly when the first has a row. -/
theorem decodeBytes_isSome (opc b1 b2 : Byte) :
    (decodeBytes opc b1 b2).isSome = (lookup opc).isSome := by
  cases h : lookup opc with
  | none => simp [decodeBytes, decode_of_lookup_none h]
  | some r =>
    obtain ⟨p, hp⟩ := r.form.read_isOk b1 b2 []
    simp [decodeBytes, decode_of_lookup h, hp]

theorem decodeBytes_eq_none_iff (opc b1 b2 : Byte) :
    decodeBytes opc b1 b2 = none ↔ lookup opc = none := by
  rw [← Option.isNone_iff_eq_none, ← Option.isNone_iff_eq_none, ← Option.not_isSome,
    ← Option.not_isSome, decodeBytes_isSome]

/-- What the list decoder reads from three bytes is what `decodeBytes` gives. -/
theorem decodeBytes_of_decode {opc b1 b2 : Byte} {i : Instr} {rest : List Byte}
    (h : decode [opc, b1, b2] = .ok (i, rest)) : decodeBytes opc b1 b2 = some i := by
  simp [decodeBytes, h]

/-- A row found in a list of rows is one of them, and has the opcode number asked for. -/
theorem findRow_eq_some {n : Nat} {rows : List Row} {r : Row} (h : findRow n rows = some r) :
    r ∈ rows ∧ r.opcode = n := by
  induction rows with
  | nil => cases h
  | cons q rest ih =>
    by_cases e : q.opcode = n
    · have hq : q = r := by simpa [findRow, e] using h
      exact hq ▸ ⟨List.mem_cons_self, e⟩
    · have hb : Nat.beq q.opcode n = false :=
        Bool.eq_false_iff.mpr fun hb => e (Nat.eq_of_beq_eq_true hb)
      have hr : findRow n rest = some r := by simpa [findRow, hb] using h
      exact ⟨List.mem_cons_of_mem q (ih hr).1, (ih hr).2⟩

/-- What a row of the table builds agrees with the row: the opcode byte, the mnemonic and the mode are the
row's, and the operand bytes are those its format read. -/
def Row.Agrees (r : Row) : Prop :=
  match r.form with
  | .f1 i => i.opcode.toNat = r.opcode ∧ i.mnemonic = r.mnemonic ∧ i.mode = r.mode ∧
      i.operand.bytes = []
  | .f2 build => ∀ b, (build b).opcode.toNat = r.opcode ∧ (build b).mnemonic = r.mnemonic ∧
      (build b).mode = r.mode ∧ (build b).operand.bytes = [b]
  | .f3 build => ∀ w, (build w).opcode.toNat = r.opcode ∧ (build w).mnemonic = r.mnemonic ∧
      (build w).mode = r.mode ∧ (build w).operand.bytes = [lowByte w, highByte w]

/-- Every row of the table agrees with what it builds. -/
theorem rowsOf_agree (n : Nat) : ∀ r ∈ rowsOf n, r.Agrees := by
  unfold rowsOf
  split <;> simp only [rows0x, rows1x, rows2x, rows3x, rows4x, rows5x, rows6x, rows7x, rows8x, rows9x,
    rowsAx, rowsBx, rowsCx, rowsDx, rowsEx, rowsFx, List.forall_mem_cons, List.not_mem_nil,
    false_implies, implies_true, and_true]
  all_goals
    repeat' first
      | exact ⟨rfl, rfl, rfl, rfl⟩
      | exact fun _ => ⟨rfl, rfl, rfl, rfl⟩
      | apply And.intro

/-- The row an opcode byte selects agrees with what it builds, and has that byte. -/
theorem lookup_eq_some {opc : Byte} {r : Row} (h : lookup opc = some r) :
    r.Agrees ∧ r.opcode = opc.toNat :=
  ⟨rowsOf_agree _ r (findRow_eq_some h).1, (findRow_eq_some h).2⟩

end Sys2Proof
end

