-- ==== Sys2Proof/Laws/State.lean ====
section
/-! SUPPORT. One lemma per field per named update of the state, so that no later proof unfolds an update. -/

namespace Sys2Proof.Machine

variable (s : State)

@[simp] theorem State.setNZ_a (v : Byte) : (s.setNZ v).a = s.a := rfl
@[simp] theorem State.setNZ_x (v : Byte) : (s.setNZ v).x = s.x := rfl
@[simp] theorem State.setNZ_y (v : Byte) : (s.setNZ v).y = s.y := rfl
@[simp] theorem State.setNZ_sp (v : Byte) : (s.setNZ v).sp = s.sp := rfl
@[simp] theorem State.setNZ_pc (v : Byte) : (s.setNZ v).pc = s.pc := rfl
@[simp] theorem State.setNZ_flagN (v : Byte) : (s.setNZ v).flagN = bitOf v 7 := rfl
@[simp] theorem State.setNZ_flagV (v : Byte) : (s.setNZ v).flagV = s.flagV := rfl
@[simp] theorem State.setNZ_flagB (v : Byte) : (s.setNZ v).flagB = s.flagB := rfl
@[simp] theorem State.setNZ_flagD (v : Byte) : (s.setNZ v).flagD = s.flagD := rfl
@[simp] theorem State.setNZ_flagI (v : Byte) : (s.setNZ v).flagI = s.flagI := rfl
@[simp] theorem State.setNZ_flagZ (v : Byte) : (s.setNZ v).flagZ = (v == 0) := rfl
@[simp] theorem State.setNZ_flagC (v : Byte) : (s.setNZ v).flagC = s.flagC := rfl
@[simp] theorem State.setNZ_mem (v : Byte) : (s.setNZ v).mem = s.mem := rfl

@[simp] theorem State.addWithCarry_a (m : Byte) : (s.addWithCarry m).a = BitVec.ofNat 8 (s.a.toNat + m.toNat + s.flagC.toNat) := rfl
@[simp] theorem State.addWithCarry_x (m : Byte) : (s.addWithCarry m).x = s.x := rfl
@[simp] theorem State.addWithCarry_y (m : Byte) : (s.addWithCarry m).y = s.y := rfl
@[simp] theorem State.addWithCarry_sp (m : Byte) : (s.addWithCarry m).sp = s.sp := rfl
@[simp] theorem State.addWithCarry_pc (m : Byte) : (s.addWithCarry m).pc = s.pc := rfl
@[simp] theorem State.addWithCarry_flagB (m : Byte) : (s.addWithCarry m).flagB = s.flagB := rfl
@[simp] theorem State.addWithCarry_flagD (m : Byte) : (s.addWithCarry m).flagD = s.flagD := rfl
@[simp] theorem State.addWithCarry_flagI (m : Byte) : (s.addWithCarry m).flagI = s.flagI := rfl
@[simp] theorem State.addWithCarry_flagC (m : Byte) : (s.addWithCarry m).flagC = decide (256 ≤ s.a.toNat + m.toNat + s.flagC.toNat) := rfl
@[simp] theorem State.addWithCarry_mem (m : Byte) : (s.addWithCarry m).mem = s.mem := rfl

@[simp] theorem State.compare_a (r m : Byte) : (s.compare r m).a = s.a := rfl
@[simp] theorem State.compare_x (r m : Byte) : (s.compare r m).x = s.x := rfl
@[simp] theorem State.compare_y (r m : Byte) : (s.compare r m).y = s.y := rfl
@[simp] theorem State.compare_sp (r m : Byte) : (s.compare r m).sp = s.sp := rfl
@[simp] theorem State.compare_pc (r m : Byte) : (s.compare r m).pc = s.pc := rfl
@[simp] theorem State.compare_flagN (r m : Byte) : (s.compare r m).flagN = bitOf (r - m) 7 := rfl
@[simp] theorem State.compare_flagV (r m : Byte) : (s.compare r m).flagV = s.flagV := rfl
@[simp] theorem State.compare_flagB (r m : Byte) : (s.compare r m).flagB = s.flagB := rfl
@[simp] theorem State.compare_flagD (r m : Byte) : (s.compare r m).flagD = s.flagD := rfl
@[simp] theorem State.compare_flagI (r m : Byte) : (s.compare r m).flagI = s.flagI := rfl
@[simp] theorem State.compare_flagZ (r m : Byte) : (s.compare r m).flagZ = (r - m == 0) := rfl
@[simp] theorem State.compare_flagC (r m : Byte) : (s.compare r m).flagC = decide (m.toNat ≤ r.toNat) := rfl
@[simp] theorem State.compare_mem (r m : Byte) : (s.compare r m).mem = s.mem := rfl

@[simp] theorem State.unpackP_a (p : Byte) : (s.unpackP p).a = s.a := rfl
@[simp] theorem State.unpackP_x (p : Byte) : (s.unpackP p).x = s.x := rfl
@[simp] theorem State.unpackP_y (p : Byte) : (s.unpackP p).y = s.y := rfl
@[simp] theorem State.unpackP_sp (p : Byte) : (s.unpackP p).sp = s.sp := rfl
@[simp] theorem State.unpackP_pc (p : Byte) : (s.unpackP p).pc = s.pc := rfl
@[simp] theorem State.unpackP_flagN (p : Byte) : (s.unpackP p).flagN = bitOf p 7 := rfl
@[simp] theorem State.unpackP_flagV (p : Byte) : (s.unpackP p).flagV = bitOf p 6 := rfl
@[simp] theorem State.unpackP_flagB (p : Byte) : (s.unpackP p).flagB = s.flagB := rfl
@[simp] theorem State.unpackP_flagD (p : Byte) : (s.unpackP p).flagD = bitOf p 3 := rfl
@[simp] theorem State.unpackP_flagI (p : Byte) : (s.unpackP p).flagI = bitOf p 2 := rfl
@[simp] theorem State.unpackP_flagZ (p : Byte) : (s.unpackP p).flagZ = bitOf p 1 := rfl
@[simp] theorem State.unpackP_flagC (p : Byte) : (s.unpackP p).flagC = bitOf p 0 := rfl
@[simp] theorem State.unpackP_mem (p : Byte) : (s.unpackP p).mem = s.mem := rfl

@[simp] theorem State.write_a (addr : Word) (v : Byte) : (s.write addr v).a = s.a := rfl
@[simp] theorem State.write_x (addr : Word) (v : Byte) : (s.write addr v).x = s.x := rfl
@[simp] theorem State.write_y (addr : Word) (v : Byte) : (s.write addr v).y = s.y := rfl
@[simp] theorem State.write_sp (addr : Word) (v : Byte) : (s.write addr v).sp = s.sp := rfl
@[simp] theorem State.write_pc (addr : Word) (v : Byte) : (s.write addr v).pc = s.pc := rfl
@[simp] theorem State.write_flagN (addr : Word) (v : Byte) : (s.write addr v).flagN = s.flagN := rfl
@[simp] theorem State.write_flagV (addr : Word) (v : Byte) : (s.write addr v).flagV = s.flagV := rfl
@[simp] theorem State.write_flagB (addr : Word) (v : Byte) : (s.write addr v).flagB = s.flagB := rfl
@[simp] theorem State.write_flagD (addr : Word) (v : Byte) : (s.write addr v).flagD = s.flagD := rfl
@[simp] theorem State.write_flagI (addr : Word) (v : Byte) : (s.write addr v).flagI = s.flagI := rfl
@[simp] theorem State.write_flagZ (addr : Word) (v : Byte) : (s.write addr v).flagZ = s.flagZ := rfl
@[simp] theorem State.write_flagC (addr : Word) (v : Byte) : (s.write addr v).flagC = s.flagC := rfl
@[simp] theorem State.write_mem (addr : Word) (v : Byte) : (s.write addr v).mem = s.mem.write addr.toNat v := rfl

@[simp] theorem State.setPc_a (w : Word) : (s.setPc w).a = s.a := rfl
@[simp] theorem State.setPc_x (w : Word) : (s.setPc w).x = s.x := rfl
@[simp] theorem State.setPc_y (w : Word) : (s.setPc w).y = s.y := rfl
@[simp] theorem State.setPc_sp (w : Word) : (s.setPc w).sp = s.sp := rfl
@[simp] theorem State.setPc_pc (w : Word) : (s.setPc w).pc = w := rfl
@[simp] theorem State.setPc_flagN (w : Word) : (s.setPc w).flagN = s.flagN := rfl
@[simp] theorem State.setPc_flagV (w : Word) : (s.setPc w).flagV = s.flagV := rfl
@[simp] theorem State.setPc_flagB (w : Word) : (s.setPc w).flagB = s.flagB := rfl
@[simp] theorem State.setPc_flagD (w : Word) : (s.setPc w).flagD = s.flagD := rfl
@[simp] theorem State.setPc_flagI (w : Word) : (s.setPc w).flagI = s.flagI := rfl
@[simp] theorem State.setPc_flagZ (w : Word) : (s.setPc w).flagZ = s.flagZ := rfl
@[simp] theorem State.setPc_flagC (w : Word) : (s.setPc w).flagC = s.flagC := rfl
@[simp] theorem State.setPc_mem (w : Word) : (s.setPc w).mem = s.mem := rfl

@[simp] theorem State.loadA_a (v : Byte) : (s.loadA v).a = v := rfl
@[simp] theorem State.loadA_x (v : Byte) : (s.loadA v).x = s.x := rfl
@[simp] theorem State.loadA_y (v : Byte) : (s.loadA v).y = s.y := rfl
@[simp] theorem State.loadA_sp (v : Byte) : (s.loadA v).sp = s.sp := rfl
@[simp] theorem State.loadA_pc (v : Byte) : (s.loadA v).pc = s.pc := rfl
@[simp] theorem State.loadA_flagN (v : Byte) : (s.loadA v).flagN = bitOf v 7 := rfl
@[simp] theorem State.loadA_flagV (v : Byte) : (s.loadA v).flagV = s.flagV := rfl
@[simp] theorem State.loadA_flagB (v : Byte) : (s.loadA v).flagB = s.flagB := rfl
@[simp] theorem State.loadA_flagD (v : Byte) : (s.loadA v).flagD = s.flagD := rfl
@[simp] theorem State.loadA_flagI (v : Byte) : (s.loadA v).flagI = s.flagI := rfl
@[simp] theorem State.loadA_flagZ (v : Byte) : (s.loadA v).flagZ = (v == 0) := rfl
@[simp] theorem State.loadA_flagC (v : Byte) : (s.loadA v).flagC = s.flagC := rfl
@[simp] theorem State.loadA_mem (v : Byte) : (s.loadA v).mem = s.mem := rfl

@[simp] theorem State.loadX_a (v : Byte) : (s.loadX v).a = s.a := rfl
@[simp] theorem State.loadX_x (v : Byte) : (s.loadX v).x = v := rfl
@[simp] theorem State.loadX_y (v : Byte) : (s.loadX v).y = s.y := rfl
@[simp] theorem State.loadX_sp (v : Byte) : (s.loadX v).sp = s.sp := rfl
@[simp] theorem State.loadX_pc (v : Byte) : (s.loadX v).pc = s.pc := rfl
@[simp] theorem State.loadX_flagN (v : Byte) : (s.loadX v).flagN = bitOf v 7 := rfl
@[simp] theorem State.loadX_flagV (v : Byte) : (s.loadX v).flagV = s.flagV := rfl
@[simp] theorem State.loadX_flagB (v : Byte) : (s.loadX v).flagB = s.flagB := rfl
@[simp] theorem State.loadX_flagD (v : Byte) : (s.loadX v).flagD = s.flagD := rfl
@[simp] theorem State.loadX_flagI (v : Byte) : (s.loadX v).flagI = s.flagI := rfl
@[simp] theorem State.loadX_flagZ (v : Byte) : (s.loadX v).flagZ = (v == 0) := rfl
@[simp] theorem State.loadX_flagC (v : Byte) : (s.loadX v).flagC = s.flagC := rfl
@[simp] theorem State.loadX_mem (v : Byte) : (s.loadX v).mem = s.mem := rfl

@[simp] theorem State.loadY_a (v : Byte) : (s.loadY v).a = s.a := rfl
@[simp] theorem State.loadY_x (v : Byte) : (s.loadY v).x = s.x := rfl
@[simp] theorem State.loadY_y (v : Byte) : (s.loadY v).y = v := rfl
@[simp] theorem State.loadY_sp (v : Byte) : (s.loadY v).sp = s.sp := rfl
@[simp] theorem State.loadY_pc (v : Byte) : (s.loadY v).pc = s.pc := rfl
@[simp] theorem State.loadY_flagN (v : Byte) : (s.loadY v).flagN = bitOf v 7 := rfl
@[simp] theorem State.loadY_flagV (v : Byte) : (s.loadY v).flagV = s.flagV := rfl
@[simp] theorem State.loadY_flagB (v : Byte) : (s.loadY v).flagB = s.flagB := rfl
@[simp] theorem State.loadY_flagD (v : Byte) : (s.loadY v).flagD = s.flagD := rfl
@[simp] theorem State.loadY_flagI (v : Byte) : (s.loadY v).flagI = s.flagI := rfl
@[simp] theorem State.loadY_flagZ (v : Byte) : (s.loadY v).flagZ = (v == 0) := rfl
@[simp] theorem State.loadY_flagC (v : Byte) : (s.loadY v).flagC = s.flagC := rfl
@[simp] theorem State.loadY_mem (v : Byte) : (s.loadY v).mem = s.mem := rfl

@[simp] theorem State.push_a (v : Byte) : (s.push v).a = s.a := rfl
@[simp] theorem State.push_x (v : Byte) : (s.push v).x = s.x := rfl
@[simp] theorem State.push_y (v : Byte) : (s.push v).y = s.y := rfl
@[simp] theorem State.push_sp (v : Byte) : (s.push v).sp = s.sp - 1 := rfl
@[simp] theorem State.push_pc (v : Byte) : (s.push v).pc = s.pc := rfl
@[simp] theorem State.push_flagN (v : Byte) : (s.push v).flagN = s.flagN := rfl
@[simp] theorem State.push_flagV (v : Byte) : (s.push v).flagV = s.flagV := rfl
@[simp] theorem State.push_flagB (v : Byte) : (s.push v).flagB = s.flagB := rfl
@[simp] theorem State.push_flagD (v : Byte) : (s.push v).flagD = s.flagD := rfl
@[simp] theorem State.push_flagI (v : Byte) : (s.push v).flagI = s.flagI := rfl
@[simp] theorem State.push_flagZ (v : Byte) : (s.push v).flagZ = s.flagZ := rfl
@[simp] theorem State.push_flagC (v : Byte) : (s.push v).flagC = s.flagC := rfl
@[simp] theorem State.push_mem (v : Byte) : (s.push v).mem = s.mem.write (stackAddr s.sp).toNat v := rfl

@[simp] theorem State.pull_a : (s.pull.2).a = s.a := rfl
@[simp] theorem State.pull_x : (s.pull.2).x = s.x := rfl
@[simp] theorem State.pull_y : (s.pull.2).y = s.y := rfl
@[simp] theorem State.pull_sp : (s.pull.2).sp = s.sp + 1 := rfl
@[simp] theorem State.pull_pc : (s.pull.2).pc = s.pc := rfl
@[simp] theorem State.pull_flagN : (s.pull.2).flagN = s.flagN := rfl
@[simp] theorem State.pull_flagV : (s.pull.2).flagV = s.flagV := rfl
@[simp] theorem State.pull_flagB : (s.pull.2).flagB = s.flagB := rfl
@[simp] theorem State.pull_flagD : (s.pull.2).flagD = s.flagD := rfl
@[simp] theorem State.pull_flagI : (s.pull.2).flagI = s.flagI := rfl
@[simp] theorem State.pull_flagZ : (s.pull.2).flagZ = s.flagZ := rfl
@[simp] theorem State.pull_flagC : (s.pull.2).flagC = s.flagC := rfl
@[simp] theorem State.pull_mem : (s.pull.2).mem = s.mem := rfl

@[simp] theorem State.pushWord_a (w : Word) : (s.pushWord w).a = s.a := rfl
@[simp] theorem State.pushWord_x (w : Word) : (s.pushWord w).x = s.x := rfl
@[simp] theorem State.pushWord_y (w : Word) : (s.pushWord w).y = s.y := rfl
@[simp] theorem State.pushWord_sp (w : Word) : (s.pushWord w).sp = s.sp - 1 - 1 := rfl
@[simp] theorem State.pushWord_pc (w : Word) : (s.pushWord w).pc = s.pc := rfl
@[simp] theorem State.pushWord_flagN (w : Word) : (s.pushWord w).flagN = s.flagN := rfl
@[simp] theorem State.pushWord_flagV (w : Word) : (s.pushWord w).flagV = s.flagV := rfl
@[simp] theorem State.pushWord_flagB (w : Word) : (s.pushWord w).flagB = s.flagB := rfl
@[simp] theorem State.pushWord_flagD (w : Word) : (s.pushWord w).flagD = s.flagD := rfl
@[simp] theorem State.pushWord_flagI (w : Word) : (s.pushWord w).flagI = s.flagI := rfl
@[simp] theorem State.pushWord_flagZ (w : Word) : (s.pushWord w).flagZ = s.flagZ := rfl
@[simp] theorem State.pushWord_flagC (w : Word) : (s.pushWord w).flagC = s.flagC := rfl

@[simp] theorem State.pullWord_a : (s.pullWord.2).a = s.a := rfl
@[simp] theorem State.pullWord_x : (s.pullWord.2).x = s.x := rfl
@[simp] theorem State.pullWord_y : (s.pullWord.2).y = s.y := rfl
@[simp] theorem State.pullWord_sp : (s.pullWord.2).sp = s.sp + 1 + 1 := rfl
@[simp] theorem State.pullWord_pc : (s.pullWord.2).pc = s.pc := rfl
@[simp] theorem State.pullWord_flagN : (s.pullWord.2).flagN = s.flagN := rfl
@[simp] theorem State.pullWord_flagV : (s.pullWord.2).flagV = s.flagV := rfl
@[simp] theorem State.pullWord_flagB : (s.pullWord.2).flagB = s.flagB := rfl
@[simp] theorem State.pullWord_flagD : (s.pullWord.2).flagD = s.flagD := rfl
@[simp] theorem State.pullWord_flagI : (s.pullWord.2).flagI = s.flagI := rfl
@[simp] theorem State.pullWord_flagZ : (s.pullWord.2).flagZ = s.flagZ := rfl
@[simp] theorem State.pullWord_flagC : (s.pullWord.2).flagC = s.flagC := rfl
@[simp] theorem State.pullWord_mem : (s.pullWord.2).mem = s.mem := rfl

@[simp] theorem State.writeBack_x (t : Target) (v : Byte) : (s.writeBack t v).x = s.x := by
  cases t <;> rfl

@[simp] theorem State.writeBack_y (t : Target) (v : Byte) : (s.writeBack t v).y = s.y := by
  cases t <;> rfl

@[simp] theorem State.writeBack_sp (t : Target) (v : Byte) : (s.writeBack t v).sp = s.sp := by
  cases t <;> rfl

@[simp] theorem State.writeBack_pc (t : Target) (v : Byte) : (s.writeBack t v).pc = s.pc := by
  cases t <;> rfl

@[simp] theorem State.writeBack_flagN (t : Target) (v : Byte) : (s.writeBack t v).flagN = s.flagN := by
  cases t <;> rfl

@[simp] theorem State.writeBack_flagV (t : Target) (v : Byte) : (s.writeBack t v).flagV = s.flagV := by
  cases t <;> rfl

@[simp] theorem State.writeBack_flagB (t : Target) (v : Byte) : (s.writeBack t v).flagB = s.flagB := by
  cases t <;> rfl

@[simp] theorem State.writeBack_flagD (t : Target) (v : Byte) : (s.writeBack t v).flagD = s.flagD := by
  cases t <;> rfl

@[simp] theorem State.writeBack_flagI (t : Target) (v : Byte) : (s.writeBack t v).flagI = s.flagI := by
  cases t <;> rfl

@[simp] theorem State.writeBack_flagZ (t : Target) (v : Byte) : (s.writeBack t v).flagZ = s.flagZ := by
  cases t <;> rfl

@[simp] theorem State.writeBack_flagC (t : Target) (v : Byte) : (s.writeBack t v).flagC = s.flagC := by
  cases t <;> rfl

@[simp] theorem State.writeBack_acc (v : Byte) : s.writeBack .acc v = { s with a := v } := rfl

@[simp] theorem State.writeBack_mem (ea : Word) (v : Byte) : s.writeBack (.mem ea) v = s.write ea v := rfl

@[simp] theorem State.shiftTo_x (t : Target) (res : Byte) (c : Bool) : (s.shiftTo t res c).x = s.x := by
  cases t <;> rfl

@[simp] theorem State.shiftTo_y (t : Target) (res : Byte) (c : Bool) : (s.shiftTo t res c).y = s.y := by
  cases t <;> rfl

@[simp] theorem State.shiftTo_sp (t : Target) (res : Byte) (c : Bool) : (s.shiftTo t res c).sp = s.sp := by
  cases t <;> rfl

@[simp] theorem State.shiftTo_pc (t : Target) (res : Byte) (c : Bool) : (s.shiftTo t res c).pc = s.pc := by
  cases t <;> rfl

@[simp] theorem State.shiftTo_flagN (t : Target) (res : Byte) (c : Bool) : (s.shiftTo t res c).flagN = bitOf res 7 := by
  cases t <;> rfl

@[simp] theorem State.shiftTo_flagV (t : Target) (res : Byte) (c : Bool) : (s.shiftTo t res c).flagV = s.flagV := by
  cases t <;> rfl

@[simp] theorem State.shiftTo_flagB (t : Target) (res : Byte) (c : Bool) : (s.shiftTo t res c).flagB = s.flagB := by
  cases t <;> rfl

@[simp] theorem State.shiftTo_flagD (t : Target) (res : Byte) (c : Bool) : (s.shiftTo t res c).flagD = s.flagD := by
  cases t <;> rfl

@[simp] theorem State.shiftTo_flagI (t : Target) (res : Byte) (c : Bool) : (s.shiftTo t res c).flagI = s.flagI := by
  cases t <;> rfl

@[simp] theorem State.shiftTo_flagZ (t : Target) (res : Byte) (c : Bool) : (s.shiftTo t res c).flagZ = (res == 0) := by
  cases t <;> rfl

@[simp] theorem State.shiftTo_flagC (t : Target) (res : Byte) (c : Bool) : (s.shiftTo t res c).flagC = c := by
  cases t <;> rfl

@[simp] theorem State.trapEntry_a : s.trapEntry.a = s.a := by simp [State.trapEntry]
@[simp] theorem State.trapEntry_x : s.trapEntry.x = s.x := by simp [State.trapEntry]
@[simp] theorem State.trapEntry_y : s.trapEntry.y = s.y := by simp [State.trapEntry]
@[simp] theorem State.trapEntry_flagN : s.trapEntry.flagN = s.flagN := by simp [State.trapEntry]
@[simp] theorem State.trapEntry_flagV : s.trapEntry.flagV = s.flagV := by simp [State.trapEntry]
@[simp] theorem State.trapEntry_flagD : s.trapEntry.flagD = s.flagD := by simp [State.trapEntry]
@[simp] theorem State.trapEntry_flagZ : s.trapEntry.flagZ = s.flagZ := by simp [State.trapEntry]
@[simp] theorem State.trapEntry_flagC : s.trapEntry.flagC = s.flagC := by simp [State.trapEntry]
@[simp] theorem State.trapEntry_sp : s.trapEntry.sp = s.sp - 1 - 1 - 1 := by simp [State.trapEntry]
@[simp] theorem State.trapEntry_flagB : s.trapEntry.flagB = true := by simp [State.trapEntry]
@[simp] theorem State.trapEntry_flagI : s.trapEntry.flagI = true := by simp [State.trapEntry]

@[simp] theorem State.trapReturn_a : s.trapReturn.a = s.a := rfl
@[simp] theorem State.trapReturn_x : s.trapReturn.x = s.x := rfl
@[simp] theorem State.trapReturn_y : s.trapReturn.y = s.y := rfl
@[simp] theorem State.trapReturn_sp : s.trapReturn.sp = s.sp + 1 + 1 + 1 := rfl
@[simp] theorem State.trapReturn_flagN : s.trapReturn.flagN = bitOf s.pull.1 7 := rfl
@[simp] theorem State.trapReturn_flagV : s.trapReturn.flagV = bitOf s.pull.1 6 := rfl
@[simp] theorem State.trapReturn_flagB : s.trapReturn.flagB = s.flagB := rfl
@[simp] theorem State.trapReturn_flagD : s.trapReturn.flagD = bitOf s.pull.1 3 := rfl
@[simp] theorem State.trapReturn_flagI : s.trapReturn.flagI = bitOf s.pull.1 2 := rfl
@[simp] theorem State.trapReturn_flagZ : s.trapReturn.flagZ = bitOf s.pull.1 1 := rfl
@[simp] theorem State.trapReturn_flagC : s.trapReturn.flagC = bitOf s.pull.1 0 := rfl
@[simp] theorem State.trapReturn_mem : s.trapReturn.mem = s.mem := rfl

end Sys2Proof.Machine
end

