-- ==== Sys2Proof/Laws/Memory.lean ====
section
/-! SUPPORT. Memory: what a read gives after a write, that every operation keeps the canonical form, and that
canonical memories with equal bytes are equal. -/

namespace Sys2Proof.Machine

/-! ## Reads after the parts of a write -/

theorem Memory.read_erase_same (m : Memory) (a : Nat) : (m.erase a).read a = Memory.unlisted := by
  induction m with
  | nil => rfl
  | cons c rest ih =>
    obtain ⟨k, v⟩ := c
    by_cases h : k = a
    · simpa [Memory.erase, h] using ih
    · simpa [Memory.erase, Memory.read, h] using ih

theorem Memory.read_erase_ne (m : Memory) {a b : Nat} (hne : b ≠ a) :
    (m.erase a).read b = m.read b := by
  induction m with
  | nil => rfl
  | cons c rest ih =>
    obtain ⟨k, v⟩ := c
    by_cases h : k = a
    · have hb : k ≠ b := fun e => hne (e.symm.trans h)
      simp only [Memory.erase, if_pos h, Memory.read, if_neg hb]
      exact ih
    · simp only [Memory.erase, if_neg h, Memory.read, ih]

theorem Memory.read_insert_ne (m : Memory) {a b : Nat} (v : Byte) (hne : b ≠ a) :
    (m.insert a v).read b = m.read b := by
  induction m with
  | nil => simp [Memory.insert, Memory.read, Ne.symm hne]
  | cons c rest ih =>
    obtain ⟨k, w⟩ := c
    by_cases h : a < k
    · simp [Memory.insert, Memory.read, h, Ne.symm hne]
    · simp only [Memory.insert, if_neg h, Memory.read, ih]

/-- The address is not listed: it is in no entry. -/
theorem Memory.read_insert_same (m : Memory) (a : Nat) (v : Byte) :
    ((m.erase a).insert a v).read a = v := by
  induction m with
  | nil => simp [Memory.erase, Memory.insert, Memory.read]
  | cons c rest ih =>
    obtain ⟨k, w⟩ := c
    by_cases h : k = a
    · simpa [Memory.erase, h] using ih
    · by_cases hlt : a < k
      · simp [Memory.erase, Memory.insert, Memory.read, h, hlt]
      · simpa [Memory.erase, Memory.insert, Memory.read, h, hlt] using ih

theorem Memory.read_write_same (m : Memory) (a : Nat) (v : Byte) : (m.write a v).read a = v := by
  unfold Memory.write
  split
  · next h => rw [Memory.read_erase_same, h]
  · exact Memory.read_insert_same m a v

theorem Memory.read_write_ne (m : Memory) {a b : Nat} (v : Byte) (hne : b ≠ a) :
    (m.write a v).read b = m.read b := by
  unfold Memory.write
  split
  · exact Memory.read_erase_ne m hne
  · rw [Memory.read_insert_ne _ v hne, Memory.read_erase_ne m hne]

/-! ## The canonical form -/

theorem Memory.wfFrom_cons {lo k : Nat} {v : Byte} {rest : Memory} :
    Memory.wfFrom lo ((k, v) :: rest) = true ↔
      lo ≤ k ∧ k < Config.memSize ∧ v ≠ Memory.unlisted ∧ Memory.wfFrom (k + 1) rest = true := by
  simp [Memory.wfFrom, and_assoc]

theorem Memory.wfFrom_mono {lo lo' : Nat} {m : Memory} (hle : lo' ≤ lo)
    (h : Memory.wfFrom lo m = true) : Memory.wfFrom lo' m = true := by
  cases m with
  | nil => rfl
  | cons c rest =>
    obtain ⟨k, v⟩ := c
    rw [Memory.wfFrom_cons] at h ⊢
    exact ⟨hle.trans h.1, h.2⟩

theorem Memory.wfFrom_erase {lo : Nat} {m : Memory} (a : Nat) (h : Memory.wfFrom lo m = true) :
    Memory.wfFrom lo (m.erase a) = true := by
  induction m generalizing lo with
  | nil => rfl
  | cons c rest ih =>
    obtain ⟨k, v⟩ := c
    rw [Memory.wfFrom_cons] at h
    by_cases hk : k = a
    · simp only [Memory.erase, if_pos hk]
      exact Memory.wfFrom_mono (by omega) (ih h.2.2.2)
    · simp only [Memory.erase, if_neg hk]
      exact Memory.wfFrom_cons.mpr ⟨h.1, h.2.1, h.2.2.1, ih h.2.2.2⟩

theorem Memory.wfFrom_insert {lo a : Nat} {m : Memory} {v : Byte} (hlo : lo ≤ a)
    (ha : a < Config.memSize) (hv : v ≠ Memory.unlisted) (h : Memory.wfFrom lo m = true) :
    Memory.wfFrom lo ((m.erase a).insert a v) = true := by
  induction m generalizing lo with
  | nil => exact Memory.wfFrom_cons.mpr ⟨hlo, ha, hv, rfl⟩
  | cons c rest ih =>
    obtain ⟨k, w⟩ := c
    have hc := Memory.wfFrom_cons.mp h
    by_cases hk : k = a
    · simp only [Memory.erase, if_pos hk]
      exact ih hlo (Memory.wfFrom_mono (by omega) hc.2.2.2)
    · simp only [Memory.erase, if_neg hk]
      by_cases hlt : a < k
      · simp only [Memory.insert, if_pos hlt]
        have hrest := Memory.wfFrom_erase a hc.2.2.2
        exact Memory.wfFrom_cons.mpr
          ⟨hlo, ha, hv, Memory.wfFrom_cons.mpr ⟨hlt, hc.2.1, hc.2.2.1, hrest⟩⟩
      · simp only [Memory.insert, if_neg hlt]
        exact Memory.wfFrom_cons.mpr ⟨hc.1, hc.2.1, hc.2.2.1, ih (by omega) hc.2.2.2⟩

/-- Every write keeps the canonical form. -/
theorem Memory.wf_write {m : Memory} {a : Nat} (v : Byte) (ha : a < Config.memSize)
    (h : m.wf = true) : (m.write a v).wf = true := by
  unfold Memory.write
  split
  · exact Memory.wfFrom_erase a h
  · next hv => exact Memory.wfFrom_insert (Nat.zero_le a) ha hv h

/-- Below its first possible address a canonical memory lists nothing. -/
theorem Memory.read_below {lo : Nat} {m : Memory} (h : Memory.wfFrom lo m = true) {a : Nat}
    (ha : a < lo) : m.read a = Memory.unlisted := by
  induction m generalizing lo with
  | nil => rfl
  | cons c rest ih =>
    obtain ⟨k, v⟩ := c
    rw [Memory.wfFrom_cons] at h
    have hk : k ≠ a := by omega
    simp only [Memory.read, if_neg hk]
    exact ih h.2.2.2 (by omega)

/-- Outside the address space a canonical memory lists nothing. -/
theorem Memory.read_outside {lo : Nat} {m : Memory} (h : Memory.wfFrom lo m = true) {a : Nat}
    (ha : Config.memSize ≤ a) : m.read a = Memory.unlisted := by
  induction m generalizing lo with
  | nil => rfl
  | cons c rest ih =>
    obtain ⟨k, v⟩ := c
    rw [Memory.wfFrom_cons] at h
    have hk : k ≠ a := by omega
    simp only [Memory.read, if_neg hk]
    exact ih h.2.2.2

/-! ## The state's reads and writes -/

@[simp] theorem State.read_write_same (s : State) (a : Word) (v : Byte) :
    (s.write a v).read a = v :=
  Memory.read_write_same s.mem a.toNat v

theorem State.read_write_ne (s : State) {a b : Word} (v : Byte) (h : b ≠ a) :
    (s.write a v).read b = s.read b :=
  Memory.read_write_ne s.mem v (fun e => h (BitVec.eq_of_toNat_eq e))

theorem State.write_wf {s : State} (a : Word) (v : Byte) (h : s.mem.wf = true) :
    (s.write a v).mem.wf = true :=
  Memory.wf_write v a.isLt h

/-- A read depends on the memory alone. -/
theorem State.read_congr {s t : State} (h : s.mem = t.mem) (a : Word) : s.read a = t.read a := by
  rw [State.read, h, State.read]

end Sys2Proof.Machine
end

