-- ==== Sys2Proof/Laws/Ops.lean ====
section
/-! SUPPORT. What the shared operations can do: the stack, the write-back, Advance, the software trap. -/

namespace Sys2Proof.Machine

/-! ## The stack -/

/-- The stack page is indexed injectively. -/
theorem stackAddr_inj {p q : Byte} : stackAddr p = stackAddr q ↔ p = q :=
  ⟨fun h => by simpa [stackAddr] using congrArg lowByte h, fun h => h ▸ rfl⟩

theorem highByte_stackAddr (sp : Byte) : highByte (stackAddr sp) = 0x01 := by
  simp [stackAddr]

@[simp] theorem State.pull_fst (s : State) : s.pull.1 = s.read (stackAddr (s.sp + 1)) := rfl

@[simp] theorem State.pullWord_fst (s : State) :
    s.pullWord.1 =
      wordOf (s.read (stackAddr (s.sp + 1 + 1))) (s.read (stackAddr (s.sp + 1))) := rfl

/-- A push changes one byte of the stack page. -/
theorem State.read_push (s : State) (v : Byte) (b : Word) :
    (s.push v).read b = if b = stackAddr s.sp then v else s.read b := by
  have h : (s.push v).read b = (s.write (stackAddr s.sp) v).read b := rfl
  rw [h]
  split
  · next e => rw [e, State.read_write_same]
  · next e => exact State.read_write_ne s v e

/-- A 16-bit push changes two bytes of the stack page. -/
theorem State.read_pushWord (s : State) (w : Word) (b : Word) :
    (s.pushWord w).read b =
      if b = stackAddr (s.sp - 1) then lowByte w
      else if b = stackAddr s.sp then highByte w else s.read b := by
  simp only [State.pushWord, State.read_push, State.push_sp]

/-! ## The write-back -/

/-- A write-back to memory changes the one byte at its address; to the accumulator, none. -/
theorem State.read_writeBack (s : State) (t : Target) (v : Byte) (b : Word) :
    (s.writeBack t v).read b = if t = .mem b then v else s.read b := by
  cases t with
  | acc => rfl
  | mem ea =>
    by_cases h : ea = b
    · subst h; simp
    · have hne : Target.mem ea ≠ .mem b := fun e => h (Target.mem.inj e)
      rw [if_neg hne, State.writeBack_mem, State.read_write_ne s v (Ne.symm h)]

/-! ## Advance -/

/-- Advance answers a next state, whatever the handler returned. -/
theorem HandlerResult.advance_isNext (h : HandlerResult) (n : Nat) :
    ∃ t, h.advance n = .next t := by
  cases h <;> exact ⟨_, rfl⟩

/-- Everything Advance can do (R94). -/
theorem HandlerResult.advance_eq_next {h : HandlerResult} {n : Nat} {t : State}
    (e : h.advance n = .next t) :
    (∃ u, h = .fallthrough u ∧ t = u.setPc (u.pc + BitVec.ofNat 16 n)) ∨ h = .retarget t := by
  cases h with
  | fallthrough u => exact .inl ⟨u, rfl, by injection e with e; exact e.symm⟩
  | retarget u => exact .inr (by injection e with e; rw [e])

/-- The state a handler left, whichever signal it returned. -/
def HandlerResult.state : HandlerResult → State
  | .fallthrough s => s
  | .retarget s => s

@[simp] theorem HandlerResult.state_fallthrough (s : State) :
    (HandlerResult.fallthrough s).state = s := rfl

@[simp] theorem HandlerResult.state_retarget (s : State) :
    (HandlerResult.retarget s).state = s := rfl

/-- Advance changes nothing but PC. -/
theorem HandlerResult.state_of_advance {h : HandlerResult} {n : Nat} {t : State}
    (e : h.advance n = .next t) : ∃ w, t = h.state.setPc w := by
  rcases HandlerResult.advance_eq_next e with ⟨u, rfl, rfl⟩ | rfl
  · exact ⟨_, rfl⟩
  · exact ⟨t.pc, rfl⟩

/-- A branch changes nothing but PC. -/
theorem branch_state (c : Bool) (d : Byte) (s : State) :
    ∃ w, (branch c d s).state = s.setPc w := by
  cases c
  · exact ⟨s.pc, rfl⟩
  · exact ⟨_, rfl⟩

/-- Everything a branch can do (R140): go to its target, or fall through. -/
theorem branch_cases (c : Bool) (d : Byte) (s : State) :
    (c = true ∧ branch c d s = .retarget (s.setPc (branchTarget s.pc d))) ∨
      (c = false ∧ branch c d s = .fallthrough s) := by
  cases c
  · exact .inr ⟨rfl, rfl⟩
  · exact .inl ⟨rfl, rfl⟩

/-! ## The canonical form through the operations -/

theorem State.push_wf {s : State} (v : Byte) (h : s.mem.wf = true) :
    (s.push v).mem.wf = true :=
  Memory.wf_write v (stackAddr s.sp).isLt h

theorem State.pushWord_wf {s : State} (w : Word) (h : s.mem.wf = true) :
    (s.pushWord w).mem.wf = true :=
  State.push_wf _ (State.push_wf _ h)

theorem State.writeBack_wf {s : State} (t : Target) (v : Byte) (h : s.mem.wf = true) :
    (s.writeBack t v).mem.wf = true := by
  cases t with
  | acc => exact h
  | mem ea => exact Memory.wf_write v ea.isLt h

theorem State.shiftTo_wf {s : State} (t : Target) (res : Byte) (c : Bool)
    (h : s.mem.wf = true) : (s.shiftTo t res c).mem.wf = true :=
  State.writeBack_wf t res h

/-! ## The software trap -/

theorem State.trapEntry_mem (s : State) :
    s.trapEntry.mem = ((s.pushWord (s.pc + 2)).push s.packP).mem := by
  simp [State.trapEntry, State.packP]

theorem State.trapEntry_wf {s : State} (h : s.mem.wf = true) : s.trapEntry.mem.wf = true := by
  rw [State.trapEntry_mem]
  exact State.push_wf _ (State.pushWord_wf _ h)

/-- The trap's three stack bytes, and no other byte, change (R229). -/
theorem State.read_trapEntry (s : State) (b : Word) :
    s.trapEntry.read b =
      if b = stackAddr (s.sp - 1 - 1) then s.packP
      else if b = stackAddr (s.sp - 1) then lowByte (s.pc + 2)
      else if b = stackAddr s.sp then highByte (s.pc + 2) else s.read b := by
  rw [State.read_congr (State.trapEntry_mem s) b]
  simp only [State.read_push, State.read_pushWord, State.pushWord_sp]

/-- An address outside the stack page is no stack address. -/
theorem ne_stackAddr {b : Word} (h : highByte b ≠ 0x01) (sp : Byte) : b ≠ stackAddr sp :=
  fun e => h (e ▸ highByte_stackAddr sp)

/-- The trap goes to the address the vector holds (R204). -/
theorem State.trapEntry_pc (s : State) : s.trapEntry.pc = s.read16 brkVector := by
  have h : s.trapEntry.pc = s.trapEntry.read16 brkVector := rfl
  have h1 : highByte (brkVector + 1) ≠ 0x01 := by decide
  have h0 : highByte brkVector ≠ 0x01 := by decide
  rw [h, State.read16, State.read16]
  simp only [State.read_trapEntry, if_neg (ne_stackAddr h1 _), if_neg (ne_stackAddr h0 _)]

/-- The return goes to the address above the pulled status byte (R205). -/
theorem State.trapReturn_pc (s : State) :
    s.trapReturn.pc =
      wordOf (s.read (stackAddr (s.sp + 1 + 1 + 1))) (s.read (stackAddr (s.sp + 1 + 1))) := rfl

end Sys2Proof.Machine
end

