-- ==== Sys2Proof/Laws/Exec.lean ====
section
/-! SUPPORT. Everything `exec` can do, said once: the handler of the instruction's mnemonic, on the resolved
operand, and then Advance. A statement about every instruction is proved by cases on `Handled`, one case per
mnemonic, instead of unfolding `exec` at every encoding. -/

namespace Sys2Proof.Machine

/-- What the handler of the instruction `i` returns, as a function of the state the step starts from (R90,
R92): one constructor per mnemonic, with the operand the handler is given. -/
inductive Handled (i : Instr) : (State → HandlerResult) → Prop where
  | adc (o : Source) (op : i.operand = o.operand) (mn : i.mnemonic = .adc) :
    Handled i (fun s => handleAdc (sourceVal s o) s)
  | sbc (o : Source) (op : i.operand = o.operand) (mn : i.mnemonic = .sbc) :
    Handled i (fun s => handleSbc (sourceVal s o) s)
  | cmp (o : Source) (op : i.operand = o.operand) (mn : i.mnemonic = .cmp) :
    Handled i (fun s => handleCmp (sourceVal s o) s)
  | cpx (o : Source) (op : i.operand = o.operand) (mn : i.mnemonic = .cpx) :
    Handled i (fun s => handleCpx (sourceVal s o) s)
  | cpy (o : Source) (op : i.operand = o.operand) (mn : i.mnemonic = .cpy) :
    Handled i (fun s => handleCpy (sourceVal s o) s)
  | and (o : Source) (op : i.operand = o.operand) (mn : i.mnemonic = .and) :
    Handled i (fun s => handleAnd (sourceVal s o) s)
  | ora (o : Source) (op : i.operand = o.operand) (mn : i.mnemonic = .ora) :
    Handled i (fun s => handleOra (sourceVal s o) s)
  | eor (o : Source) (op : i.operand = o.operand) (mn : i.mnemonic = .eor) :
    Handled i (fun s => handleEor (sourceVal s o) s)
  | bit (o : Source) (op : i.operand = o.operand) (mn : i.mnemonic = .bit) :
    Handled i (fun s => handleBit (sourceVal s o) s)
  | asl (o : Place) (op : i.operand = o.operand) (mn : i.mnemonic = .asl) :
    Handled i (fun s => handleAsl (placeTarget s o) (placeVal s o) s)
  | lsr (o : Place) (op : i.operand = o.operand) (mn : i.mnemonic = .lsr) :
    Handled i (fun s => handleLsr (placeTarget s o) (placeVal s o) s)
  | rol (o : Place) (op : i.operand = o.operand) (mn : i.mnemonic = .rol) :
    Handled i (fun s => handleRol (placeTarget s o) (placeVal s o) s)
  | ror (o : Place) (op : i.operand = o.operand) (mn : i.mnemonic = .ror) :
    Handled i (fun s => handleRor (placeTarget s o) (placeVal s o) s)
  | bcc (d : Byte) (op : i.operand = .rel d) (mn : i.mnemonic = .bcc) : Handled i (handleBcc d)
  | bcs (d : Byte) (op : i.operand = .rel d) (mn : i.mnemonic = .bcs) : Handled i (handleBcs d)
  | beq (d : Byte) (op : i.operand = .rel d) (mn : i.mnemonic = .beq) : Handled i (handleBeq d)
  | bne (d : Byte) (op : i.operand = .rel d) (mn : i.mnemonic = .bne) : Handled i (handleBne d)
  | bmi (d : Byte) (op : i.operand = .rel d) (mn : i.mnemonic = .bmi) : Handled i (handleBmi d)
  | bpl (d : Byte) (op : i.operand = .rel d) (mn : i.mnemonic = .bpl) : Handled i (handleBpl d)
  | bvc (d : Byte) (op : i.operand = .rel d) (mn : i.mnemonic = .bvc) : Handled i (handleBvc d)
  | bvs (d : Byte) (op : i.operand = .rel d) (mn : i.mnemonic = .bvs) : Handled i (handleBvs d)
  | jmp (m : MemMode) (op : i.operand = .mem m) (mn : i.mnemonic = .jmp) :
    Handled i (fun s => handleJmp (effectiveAddress s m) s)
  | jsr (m : MemMode) (op : i.operand = .mem m) (mn : i.mnemonic = .jsr) :
    Handled i (fun s => handleJsr (effectiveAddress s m) s)
  | rts (op : i.operand = .imp) (mn : i.mnemonic = .rts) : Handled i handleRts
  | clc (op : i.operand = .imp) (mn : i.mnemonic = .clc) : Handled i handleClc
  | cld (op : i.operand = .imp) (mn : i.mnemonic = .cld) : Handled i handleCld
  | cli (op : i.operand = .imp) (mn : i.mnemonic = .cli) : Handled i handleCli
  | clv (op : i.operand = .imp) (mn : i.mnemonic = .clv) : Handled i handleClv
  | sec (op : i.operand = .imp) (mn : i.mnemonic = .sec) : Handled i handleSec
  | sed (op : i.operand = .imp) (mn : i.mnemonic = .sed) : Handled i handleSed
  | sei (op : i.operand = .imp) (mn : i.mnemonic = .sei) : Handled i handleSei
  | lda (o : Source) (op : i.operand = o.operand) (mn : i.mnemonic = .lda) :
    Handled i (fun s => handleLda (sourceVal s o) s)
  | ldx (o : Source) (op : i.operand = o.operand) (mn : i.mnemonic = .ldx) :
    Handled i (fun s => handleLdx (sourceVal s o) s)
  | ldy (o : Source) (op : i.operand = o.operand) (mn : i.mnemonic = .ldy) :
    Handled i (fun s => handleLdy (sourceVal s o) s)
  | sta (m : MemMode) (op : i.operand = .mem m) (mn : i.mnemonic = .sta) :
    Handled i (fun s => handleSta (effectiveAddress s m) s)
  | stx (m : MemMode) (op : i.operand = .mem m) (mn : i.mnemonic = .stx) :
    Handled i (fun s => handleStx (effectiveAddress s m) s)
  | sty (m : MemMode) (op : i.operand = .mem m) (mn : i.mnemonic = .sty) :
    Handled i (fun s => handleSty (effectiveAddress s m) s)
  | tax (op : i.operand = .imp) (mn : i.mnemonic = .tax) : Handled i handleTax
  | tay (op : i.operand = .imp) (mn : i.mnemonic = .tay) : Handled i handleTay
  | txa (op : i.operand = .imp) (mn : i.mnemonic = .txa) : Handled i handleTxa
  | tya (op : i.operand = .imp) (mn : i.mnemonic = .tya) : Handled i handleTya
  | tsx (op : i.operand = .imp) (mn : i.mnemonic = .tsx) : Handled i handleTsx
  | txs (op : i.operand = .imp) (mn : i.mnemonic = .txs) : Handled i handleTxs
  | inc (o : Place) (op : i.operand = o.operand) (mn : i.mnemonic = .inc) :
    Handled i (fun s => handleInc (placeTarget s o) (placeVal s o) s)
  | dec (o : Place) (op : i.operand = o.operand) (mn : i.mnemonic = .dec) :
    Handled i (fun s => handleDec (placeTarget s o) (placeVal s o) s)
  | inx (op : i.operand = .imp) (mn : i.mnemonic = .inx) : Handled i handleInx
  | iny (op : i.operand = .imp) (mn : i.mnemonic = .iny) : Handled i handleIny
  | dex (op : i.operand = .imp) (mn : i.mnemonic = .dex) : Handled i handleDex
  | dey (op : i.operand = .imp) (mn : i.mnemonic = .dey) : Handled i handleDey
  | pha (op : i.operand = .imp) (mn : i.mnemonic = .pha) : Handled i handlePha
  | php (op : i.operand = .imp) (mn : i.mnemonic = .php) : Handled i handlePhp
  | pla (op : i.operand = .imp) (mn : i.mnemonic = .pla) : Handled i handlePla
  | plp (op : i.operand = .imp) (mn : i.mnemonic = .plp) : Handled i handlePlp
  | brk (op : i.operand = .imp) (mn : i.mnemonic = .brk) : Handled i handleBrk
  | rti (op : i.operand = .imp) (mn : i.mnemonic = .rti) : Handled i handleRti
  | nop (op : i.operand = .imp) (mn : i.mnemonic = .nop) : Handled i handleNop

/-- `exec` is the handler and Advance by the instruction's length. -/
theorem exec_handled (i : Instr) :
    ∃ h, Handled i h ∧ ∀ s, exec i s = (h s).advance i.length := by
  cases i
  case adcImm => exact ⟨_, .adc _ rfl rfl, fun _ => rfl⟩
  case adcZp => exact ⟨_, .adc _ rfl rfl, fun _ => rfl⟩
  case adcZpx => exact ⟨_, .adc _ rfl rfl, fun _ => rfl⟩
  case adcAbs => exact ⟨_, .adc _ rfl rfl, fun _ => rfl⟩
  case adcAbsx => exact ⟨_, .adc _ rfl rfl, fun _ => rfl⟩
  case adcAbsy => exact ⟨_, .adc _ rfl rfl, fun _ => rfl⟩
  case adcIndx => exact ⟨_, .adc _ rfl rfl, fun _ => rfl⟩
  case adcIndy => exact ⟨_, .adc _ rfl rfl, fun _ => rfl⟩
  case sbcImm => exact ⟨_, .sbc _ rfl rfl, fun _ => rfl⟩
  case sbcZp => exact ⟨_, .sbc _ rfl rfl, fun _ => rfl⟩
  case sbcZpx => exact ⟨_, .sbc _ rfl rfl, fun _ => rfl⟩
  case sbcAbs => exact ⟨_, .sbc _ rfl rfl, fun _ => rfl⟩
  case sbcAbsx => exact ⟨_, .sbc _ rfl rfl, fun _ => rfl⟩
  case sbcAbsy => exact ⟨_, .sbc _ rfl rfl, fun _ => rfl⟩
  case sbcIndx => exact ⟨_, .sbc _ rfl rfl, fun _ => rfl⟩
  case sbcIndy => exact ⟨_, .sbc _ rfl rfl, fun _ => rfl⟩
  case cmpImm => exact ⟨_, .cmp _ rfl rfl, fun _ => rfl⟩
  case cmpZp => exact ⟨_, .cmp _ rfl rfl, fun _ => rfl⟩
  case cmpZpx => exact ⟨_, .cmp _ rfl rfl, fun _ => rfl⟩
  case cmpAbs => exact ⟨_, .cmp _ rfl rfl, fun _ => rfl⟩
  case cmpAbsx => exact ⟨_, .cmp _ rfl rfl, fun _ => rfl⟩
  case cmpAbsy => exact ⟨_, .cmp _ rfl rfl, fun _ => rfl⟩
  case cmpIndx => exact ⟨_, .cmp _ rfl rfl, fun _ => rfl⟩
  case cmpIndy => exact ⟨_, .cmp _ rfl rfl, fun _ => rfl⟩
  case cpxImm => exact ⟨_, .cpx _ rfl rfl, fun _ => rfl⟩
  case cpxZp => exact ⟨_, .cpx _ rfl rfl, fun _ => rfl⟩
  case cpxAbs => exact ⟨_, .cpx _ rfl rfl, fun _ => rfl⟩
  case cpyImm => exact ⟨_, .cpy _ rfl rfl, fun _ => rfl⟩
  case cpyZp => exact ⟨_, .cpy _ rfl rfl, fun _ => rfl⟩
  case cpyAbs => exact ⟨_, .cpy _ rfl rfl, fun _ => rfl⟩
  case andImm => exact ⟨_, .and _ rfl rfl, fun _ => rfl⟩
  case andZp => exact ⟨_, .and _ rfl rfl, fun _ => rfl⟩
  case andZpx => exact ⟨_, .and _ rfl rfl, fun _ => rfl⟩
  case andAbs => exact ⟨_, .and _ rfl rfl, fun _ => rfl⟩
  case andAbsx => exact ⟨_, .and _ rfl rfl, fun _ => rfl⟩
  case andAbsy => exact ⟨_, .and _ rfl rfl, fun _ => rfl⟩
  case andIndx => exact ⟨_, .and _ rfl rfl, fun _ => rfl⟩
  case andIndy => exact ⟨_, .and _ rfl rfl, fun _ => rfl⟩
  case oraImm => exact ⟨_, .ora _ rfl rfl, fun _ => rfl⟩
  case oraZp => exact ⟨_, .ora _ rfl rfl, fun _ => rfl⟩
  case oraZpx => exact ⟨_, .ora _ rfl rfl, fun _ => rfl⟩
  case oraAbs => exact ⟨_, .ora _ rfl rfl, fun _ => rfl⟩
  case oraAbsx => exact ⟨_, .ora _ rfl rfl, fun _ => rfl⟩
  case oraAbsy => exact ⟨_, .ora _ rfl rfl, fun _ => rfl⟩
  case oraIndx => exact ⟨_, .ora _ rfl rfl, fun _ => rfl⟩
  case oraIndy => exact ⟨_, .ora _ rfl rfl, fun _ => rfl⟩
  case eorImm => exact ⟨_, .eor _ rfl rfl, fun _ => rfl⟩
  case eorZp => exact ⟨_, .eor _ rfl rfl, fun _ => rfl⟩
  case eorZpx => exact ⟨_, .eor _ rfl rfl, fun _ => rfl⟩
  case eorAbs => exact ⟨_, .eor _ rfl rfl, fun _ => rfl⟩
  case eorAbsx => exact ⟨_, .eor _ rfl rfl, fun _ => rfl⟩
  case eorAbsy => exact ⟨_, .eor _ rfl rfl, fun _ => rfl⟩
  case eorIndx => exact ⟨_, .eor _ rfl rfl, fun _ => rfl⟩
  case eorIndy => exact ⟨_, .eor _ rfl rfl, fun _ => rfl⟩
  case bitZp => exact ⟨_, .bit _ rfl rfl, fun _ => rfl⟩
  case bitAbs => exact ⟨_, .bit _ rfl rfl, fun _ => rfl⟩
  case aslAcc => exact ⟨_, .asl _ rfl rfl, fun _ => rfl⟩
  case aslZp => exact ⟨_, .asl _ rfl rfl, fun _ => rfl⟩
  case aslZpx => exact ⟨_, .asl _ rfl rfl, fun _ => rfl⟩
  case aslAbs => exact ⟨_, .asl _ rfl rfl, fun _ => rfl⟩
  case aslAbsx => exact ⟨_, .asl _ rfl rfl, fun _ => rfl⟩
  case lsrAcc => exact ⟨_, .lsr _ rfl rfl, fun _ => rfl⟩
  case lsrZp => exact ⟨_, .lsr _ rfl rfl, fun _ => rfl⟩
  case lsrZpx => exact ⟨_, .lsr _ rfl rfl, fun _ => rfl⟩
  case lsrAbs => exact ⟨_, .lsr _ rfl rfl, fun _ => rfl⟩
  case lsrAbsx => exact ⟨_, .lsr _ rfl rfl, fun _ => rfl⟩
  case rolAcc => exact ⟨_, .rol _ rfl rfl, fun _ => rfl⟩
  case rolZp => exact ⟨_, .rol _ rfl rfl, fun _ => rfl⟩
  case rolZpx => exact ⟨_, .rol _ rfl rfl, fun _ => rfl⟩
  case rolAbs => exact ⟨_, .rol _ rfl rfl, fun _ => rfl⟩
  case rolAbsx => exact ⟨_, .rol _ rfl rfl, fun _ => rfl⟩
  case rorAcc => exact ⟨_, .ror _ rfl rfl, fun _ => rfl⟩
  case rorZp => exact ⟨_, .ror _ rfl rfl, fun _ => rfl⟩
  case rorZpx => exact ⟨_, .ror _ rfl rfl, fun _ => rfl⟩
  case rorAbs => exact ⟨_, .ror _ rfl rfl, fun _ => rfl⟩
  case rorAbsx => exact ⟨_, .ror _ rfl rfl, fun _ => rfl⟩
  case bcc => exact ⟨_, .bcc _ rfl rfl, fun _ => rfl⟩
  case bcs => exact ⟨_, .bcs _ rfl rfl, fun _ => rfl⟩
  case beq => exact ⟨_, .beq _ rfl rfl, fun _ => rfl⟩
  case bne => exact ⟨_, .bne _ rfl rfl, fun _ => rfl⟩
  case bmi => exact ⟨_, .bmi _ rfl rfl, fun _ => rfl⟩
  case bpl => exact ⟨_, .bpl _ rfl rfl, fun _ => rfl⟩
  case bvc => exact ⟨_, .bvc _ rfl rfl, fun _ => rfl⟩
  case bvs => exact ⟨_, .bvs _ rfl rfl, fun _ => rfl⟩
  case jmpAbs => exact ⟨_, .jmp _ rfl rfl, fun _ => rfl⟩
  case jmpInd => exact ⟨_, .jmp _ rfl rfl, fun _ => rfl⟩
  case jsr => exact ⟨_, .jsr _ rfl rfl, fun _ => rfl⟩
  case rts => exact ⟨_, .rts rfl rfl, fun _ => rfl⟩
  case clc => exact ⟨_, .clc rfl rfl, fun _ => rfl⟩
  case cld => exact ⟨_, .cld rfl rfl, fun _ => rfl⟩
  case cli => exact ⟨_, .cli rfl rfl, fun _ => rfl⟩
  case clv => exact ⟨_, .clv rfl rfl, fun _ => rfl⟩
  case sec => exact ⟨_, .sec rfl rfl, fun _ => rfl⟩
  case sed => exact ⟨_, .sed rfl rfl, fun _ => rfl⟩
  case sei => exact ⟨_, .sei rfl rfl, fun _ => rfl⟩
  case ldaImm => exact ⟨_, .lda _ rfl rfl, fun _ => rfl⟩
  case ldaZp => exact ⟨_, .lda _ rfl rfl, fun _ => rfl⟩
  case ldaZpx => exact ⟨_, .lda _ rfl rfl, fun _ => rfl⟩
  case ldaAbs => exact ⟨_, .lda _ rfl rfl, fun _ => rfl⟩
  case ldaAbsx => exact ⟨_, .lda _ rfl rfl, fun _ => rfl⟩
  case ldaAbsy => exact ⟨_, .lda _ rfl rfl, fun _ => rfl⟩
  case ldaIndx => exact ⟨_, .lda _ rfl rfl, fun _ => rfl⟩
  case ldaIndy => exact ⟨_, .lda _ rfl rfl, fun _ => rfl⟩
  case ldxImm => exact ⟨_, .ldx _ rfl rfl, fun _ => rfl⟩
  case ldxZp => exact ⟨_, .ldx _ rfl rfl, fun _ => rfl⟩
  case ldxZpy => exact ⟨_, .ldx _ rfl rfl, fun _ => rfl⟩
  case ldxAbs => exact ⟨_, .ldx _ rfl rfl, fun _ => rfl⟩
  case ldxAbsy => exact ⟨_, .ldx _ rfl rfl, fun _ => rfl⟩
  case ldyImm => exact ⟨_, .ldy _ rfl rfl, fun _ => rfl⟩
  case ldyZp => exact ⟨_, .ldy _ rfl rfl, fun _ => rfl⟩
  case ldyZpx => exact ⟨_, .ldy _ rfl rfl, fun _ => rfl⟩
  case ldyAbs => exact ⟨_, .ldy _ rfl rfl, fun _ => rfl⟩
  case ldyAbsx => exact ⟨_, .ldy _ rfl rfl, fun _ => rfl⟩
  case staZp => exact ⟨_, .sta _ rfl rfl, fun _ => rfl⟩
  case staZpx => exact ⟨_, .sta _ rfl rfl, fun _ => rfl⟩
  case staAbs => exact ⟨_, .sta _ rfl rfl, fun _ => rfl⟩
  case staAbsx => exact ⟨_, .sta _ rfl rfl, fun _ => rfl⟩
  case staAbsy => exact ⟨_, .sta _ rfl rfl, fun _ => rfl⟩
  case staIndx => exact ⟨_, .sta _ rfl rfl, fun _ => rfl⟩
  case staIndy => exact ⟨_, .sta _ rfl rfl, fun _ => rfl⟩
  case stxZp => exact ⟨_, .stx _ rfl rfl, fun _ => rfl⟩
  case stxZpy => exact ⟨_, .stx _ rfl rfl, fun _ => rfl⟩
  case stxAbs => exact ⟨_, .stx _ rfl rfl, fun _ => rfl⟩
  case styZp => exact ⟨_, .sty _ rfl rfl, fun _ => rfl⟩
  case styZpx => exact ⟨_, .sty _ rfl rfl, fun _ => rfl⟩
  case styAbs => exact ⟨_, .sty _ rfl rfl, fun _ => rfl⟩
  case tax => exact ⟨_, .tax rfl rfl, fun _ => rfl⟩
  case tay => exact ⟨_, .tay rfl rfl, fun _ => rfl⟩
  case txa => exact ⟨_, .txa rfl rfl, fun _ => rfl⟩
  case tya => exact ⟨_, .tya rfl rfl, fun _ => rfl⟩
  case tsx => exact ⟨_, .tsx rfl rfl, fun _ => rfl⟩
  case txs => exact ⟨_, .txs rfl rfl, fun _ => rfl⟩
  case incZp => exact ⟨_, .inc _ rfl rfl, fun _ => rfl⟩
  case incZpx => exact ⟨_, .inc _ rfl rfl, fun _ => rfl⟩
  case incAbs => exact ⟨_, .inc _ rfl rfl, fun _ => rfl⟩
  case incAbsx => exact ⟨_, .inc _ rfl rfl, fun _ => rfl⟩
  case decZp => exact ⟨_, .dec _ rfl rfl, fun _ => rfl⟩
  case decZpx => exact ⟨_, .dec _ rfl rfl, fun _ => rfl⟩
  case decAbs => exact ⟨_, .dec _ rfl rfl, fun _ => rfl⟩
  case decAbsx => exact ⟨_, .dec _ rfl rfl, fun _ => rfl⟩
  case inx => exact ⟨_, .inx rfl rfl, fun _ => rfl⟩
  case iny => exact ⟨_, .iny rfl rfl, fun _ => rfl⟩
  case dex => exact ⟨_, .dex rfl rfl, fun _ => rfl⟩
  case dey => exact ⟨_, .dey rfl rfl, fun _ => rfl⟩
  case pha => exact ⟨_, .pha rfl rfl, fun _ => rfl⟩
  case php => exact ⟨_, .php rfl rfl, fun _ => rfl⟩
  case pla => exact ⟨_, .pla rfl rfl, fun _ => rfl⟩
  case plp => exact ⟨_, .plp rfl rfl, fun _ => rfl⟩
  case brk => exact ⟨_, .brk rfl rfl, fun _ => rfl⟩
  case rti => exact ⟨_, .rti rfl rfl, fun _ => rfl⟩
  case nop => exact ⟨_, .nop rfl rfl, fun _ => rfl⟩

/-- An `exec` that answers a next state ran the handler of its mnemonic and advanced. -/
theorem exec_eq_next {i : Instr} {s t : State} (e : exec i s = .next t) :
    ∃ h, Handled i h ∧ (h s).advance i.length = .next t := by
  obtain ⟨h, hh, he⟩ := exec_handled i
  exact ⟨h, hh, he s ▸ e⟩

end Sys2Proof.Machine
end

