-- ==== Sys2Proof/Laws/Flags.lean ====
section
/-! SUPPORT. The flag computations in the terms statements use: the sign bit, equality with zero, the
overflow test, and the bits of the status byte. -/

namespace Sys2Proof.Machine

/-- Bit 7 is the sign bit. -/
theorem bitOf_seven (v : Byte) : bitOf v 7 = v.msb := by
  simp [bitOf, BitVec.msb_eq_getLsbD_last]

theorem beq_zero_eq_decide (v : Byte) : (v == 0) = decide (v = 0) := rfl

/-- Masking with 0x80 keeps the sign bit alone. -/
theorem and_0x80_ne_zero (v : Byte) : (v &&& 0x80 != 0) = v.msb := by
  revert v; decide

/-- The overflow test of R110 in its other form: the operands' signs agree and the result's does not. -/
theorem overflow_eq_signs (a m r : Byte) :
    ((a ^^^ r) &&& (m ^^^ r) &&& 0x80 != 0) = decide (a.msb = m.msb ∧ r.msb ≠ a.msb) := by
  rw [and_0x80_ne_zero, BitVec.msb_and, BitVec.msb_xor, BitVec.msb_xor]
  cases a.msb <;> cases r.msb <;> cases m.msb <;> rfl

/-- A flag as a bit of a byte. -/
theorem getLsbD_flagByte (f : Bool) {j k : Nat} (hj : j < 8) :
    (flagByte f k).getLsbD j = (decide (j = k) && f) := by
  cases f with
  | false => simp [flagByte]
  | true =>
    have h : (1#8 <<< k).getLsbD j = decide (j = k) := by
      rw [BitVec.getLsbD_shiftLeft]
      by_cases hk : j = k
      · subst hk; simp [hj]
      · by_cases hlt : j < k
        · simp [hlt, hk]
        · have : j - k ≠ 0 := by omega
          simp [hk, hlt, hj, BitVec.getLsbD_one, this]
    simpa [flagByte] using h

/-- The bits of the status byte (R24): bits 5 and 4 are 1, and B is not among them. -/
theorem State.bitOf_packP (s : State) {k : Nat} (hk : k < 8) :
    bitOf s.packP k =
      [s.flagC, s.flagZ, s.flagI, s.flagD, true, true, s.flagV, s.flagN].getD k false := by
  simp only [bitOf, State.packP, BitVec.getLsbD_or, getLsbD_flagByte _ hk]
  interval_cases k <;> simp

end Sys2Proof.Machine
end

