-- ==== Sys2Proof/Laws/PerInstr.lean ====
section
/-! SUPPORT. The per-instruction family `Descriptor`: each instruction is well-formed (R57, R59), the row its
opcode byte selects carries its mnemonic and its mode (R55), and its encoding is as long as the row's
mode says (R52, R53). -/

namespace Sys2Proof.Laws

/-- The mnemonic and the mode of an opcode byte's row. -/
def Descriptor.row (opc : Byte) : Option (Mnemonic × Mode) :=
  (lookup opc).map fun r => (r.mnemonic, r.mode)

/-- The descriptor of R55 agrees with the instruction as syntax. -/
def Descriptor.Statement (i : Instr) : Prop :=
  i.wellFormed = true ∧
    Descriptor.row i.opcode = some (i.mnemonic, i.mode) ∧
    (encode i).length = i.length

theorem Descriptor.adcImm (b : Byte) : Descriptor.Statement (.adcImm b) :=
  ⟨rfl, (rfl : Descriptor.row 0x69 = some (.adc, .imm)), rfl⟩

theorem Descriptor.adcZp (b : Byte) : Descriptor.Statement (.adcZp b) :=
  ⟨rfl, (rfl : Descriptor.row 0x65 = some (.adc, .zp)), rfl⟩

theorem Descriptor.adcZpx (b : Byte) : Descriptor.Statement (.adcZpx b) :=
  ⟨rfl, (rfl : Descriptor.row 0x75 = some (.adc, .zpx)), rfl⟩

theorem Descriptor.adcAbs (w : Word) : Descriptor.Statement (.adcAbs w) :=
  ⟨rfl, (rfl : Descriptor.row 0x6D = some (.adc, .abs)), rfl⟩

theorem Descriptor.adcAbsx (w : Word) : Descriptor.Statement (.adcAbsx w) :=
  ⟨rfl, (rfl : Descriptor.row 0x7D = some (.adc, .absx)), rfl⟩

theorem Descriptor.adcAbsy (w : Word) : Descriptor.Statement (.adcAbsy w) :=
  ⟨rfl, (rfl : Descriptor.row 0x79 = some (.adc, .absy)), rfl⟩

theorem Descriptor.adcIndx (b : Byte) : Descriptor.Statement (.adcIndx b) :=
  ⟨rfl, (rfl : Descriptor.row 0x61 = some (.adc, .indx)), rfl⟩

theorem Descriptor.adcIndy (b : Byte) : Descriptor.Statement (.adcIndy b) :=
  ⟨rfl, (rfl : Descriptor.row 0x71 = some (.adc, .indy)), rfl⟩

theorem Descriptor.sbcImm (b : Byte) : Descriptor.Statement (.sbcImm b) :=
  ⟨rfl, (rfl : Descriptor.row 0xE9 = some (.sbc, .imm)), rfl⟩

theorem Descriptor.sbcZp (b : Byte) : Descriptor.Statement (.sbcZp b) :=
  ⟨rfl, (rfl : Descriptor.row 0xE5 = some (.sbc, .zp)), rfl⟩

theorem Descriptor.sbcZpx (b : Byte) : Descriptor.Statement (.sbcZpx b) :=
  ⟨rfl, (rfl : Descriptor.row 0xF5 = some (.sbc, .zpx)), rfl⟩

theorem Descriptor.sbcAbs (w : Word) : Descriptor.Statement (.sbcAbs w) :=
  ⟨rfl, (rfl : Descriptor.row 0xED = some (.sbc, .abs)), rfl⟩

theorem Descriptor.sbcAbsx (w : Word) : Descriptor.Statement (.sbcAbsx w) :=
  ⟨rfl, (rfl : Descriptor.row 0xFD = some (.sbc, .absx)), rfl⟩

theorem Descriptor.sbcAbsy (w : Word) : Descriptor.Statement (.sbcAbsy w) :=
  ⟨rfl, (rfl : Descriptor.row 0xF9 = some (.sbc, .absy)), rfl⟩

theorem Descriptor.sbcIndx (b : Byte) : Descriptor.Statement (.sbcIndx b) :=
  ⟨rfl, (rfl : Descriptor.row 0xE1 = some (.sbc, .indx)), rfl⟩

theorem Descriptor.sbcIndy (b : Byte) : Descriptor.Statement (.sbcIndy b) :=
  ⟨rfl, (rfl : Descriptor.row 0xF1 = some (.sbc, .indy)), rfl⟩

theorem Descriptor.cmpImm (b : Byte) : Descriptor.Statement (.cmpImm b) :=
  ⟨rfl, (rfl : Descriptor.row 0xC9 = some (.cmp, .imm)), rfl⟩

theorem Descriptor.cmpZp (b : Byte) : Descriptor.Statement (.cmpZp b) :=
  ⟨rfl, (rfl : Descriptor.row 0xC5 = some (.cmp, .zp)), rfl⟩

theorem Descriptor.cmpZpx (b : Byte) : Descriptor.Statement (.cmpZpx b) :=
  ⟨rfl, (rfl : Descriptor.row 0xD5 = some (.cmp, .zpx)), rfl⟩

theorem Descriptor.cmpAbs (w : Word) : Descriptor.Statement (.cmpAbs w) :=
  ⟨rfl, (rfl : Descriptor.row 0xCD = some (.cmp, .abs)), rfl⟩

theorem Descriptor.cmpAbsx (w : Word) : Descriptor.Statement (.cmpAbsx w) :=
  ⟨rfl, (rfl : Descriptor.row 0xDD = some (.cmp, .absx)), rfl⟩

theorem Descriptor.cmpAbsy (w : Word) : Descriptor.Statement (.cmpAbsy w) :=
  ⟨rfl, (rfl : Descriptor.row 0xD9 = some (.cmp, .absy)), rfl⟩

theorem Descriptor.cmpIndx (b : Byte) : Descriptor.Statement (.cmpIndx b) :=
  ⟨rfl, (rfl : Descriptor.row 0xC1 = some (.cmp, .indx)), rfl⟩

theorem Descriptor.cmpIndy (b : Byte) : Descriptor.Statement (.cmpIndy b) :=
  ⟨rfl, (rfl : Descriptor.row 0xD1 = some (.cmp, .indy)), rfl⟩

theorem Descriptor.cpxImm (b : Byte) : Descriptor.Statement (.cpxImm b) :=
  ⟨rfl, (rfl : Descriptor.row 0xE0 = some (.cpx, .imm)), rfl⟩

theorem Descriptor.cpxZp (b : Byte) : Descriptor.Statement (.cpxZp b) :=
  ⟨rfl, (rfl : Descriptor.row 0xE4 = some (.cpx, .zp)), rfl⟩

theorem Descriptor.cpxAbs (w : Word) : Descriptor.Statement (.cpxAbs w) :=
  ⟨rfl, (rfl : Descriptor.row 0xEC = some (.cpx, .abs)), rfl⟩

theorem Descriptor.cpyImm (b : Byte) : Descriptor.Statement (.cpyImm b) :=
  ⟨rfl, (rfl : Descriptor.row 0xC0 = some (.cpy, .imm)), rfl⟩

theorem Descriptor.cpyZp (b : Byte) : Descriptor.Statement (.cpyZp b) :=
  ⟨rfl, (rfl : Descriptor.row 0xC4 = some (.cpy, .zp)), rfl⟩

theorem Descriptor.cpyAbs (w : Word) : Descriptor.Statement (.cpyAbs w) :=
  ⟨rfl, (rfl : Descriptor.row 0xCC = some (.cpy, .abs)), rfl⟩

theorem Descriptor.andImm (b : Byte) : Descriptor.Statement (.andImm b) :=
  ⟨rfl, (rfl : Descriptor.row 0x29 = some (.and, .imm)), rfl⟩

theorem Descriptor.andZp (b : Byte) : Descriptor.Statement (.andZp b) :=
  ⟨rfl, (rfl : Descriptor.row 0x25 = some (.and, .zp)), rfl⟩

theorem Descriptor.andZpx (b : Byte) : Descriptor.Statement (.andZpx b) :=
  ⟨rfl, (rfl : Descriptor.row 0x35 = some (.and, .zpx)), rfl⟩

theorem Descriptor.andAbs (w : Word) : Descriptor.Statement (.andAbs w) :=
  ⟨rfl, (rfl : Descriptor.row 0x2D = some (.and, .abs)), rfl⟩

theorem Descriptor.andAbsx (w : Word) : Descriptor.Statement (.andAbsx w) :=
  ⟨rfl, (rfl : Descriptor.row 0x3D = some (.and, .absx)), rfl⟩

theorem Descriptor.andAbsy (w : Word) : Descriptor.Statement (.andAbsy w) :=
  ⟨rfl, (rfl : Descriptor.row 0x39 = some (.and, .absy)), rfl⟩

theorem Descriptor.andIndx (b : Byte) : Descriptor.Statement (.andIndx b) :=
  ⟨rfl, (rfl : Descriptor.row 0x21 = some (.and, .indx)), rfl⟩

theorem Descriptor.andIndy (b : Byte) : Descriptor.Statement (.andIndy b) :=
  ⟨rfl, (rfl : Descriptor.row 0x31 = some (.and, .indy)), rfl⟩

theorem Descriptor.oraImm (b : Byte) : Descriptor.Statement (.oraImm b) :=
  ⟨rfl, (rfl : Descriptor.row 0x09 = some (.ora, .imm)), rfl⟩

theorem Descriptor.oraZp (b : Byte) : Descriptor.Statement (.oraZp b) :=
  ⟨rfl, (rfl : Descriptor.row 0x05 = some (.ora, .zp)), rfl⟩

theorem Descriptor.oraZpx (b : Byte) : Descriptor.Statement (.oraZpx b) :=
  ⟨rfl, (rfl : Descriptor.row 0x15 = some (.ora, .zpx)), rfl⟩

theorem Descriptor.oraAbs (w : Word) : Descriptor.Statement (.oraAbs w) :=
  ⟨rfl, (rfl : Descriptor.row 0x0D = some (.ora, .abs)), rfl⟩

theorem Descriptor.oraAbsx (w : Word) : Descriptor.Statement (.oraAbsx w) :=
  ⟨rfl, (rfl : Descriptor.row 0x1D = some (.ora, .absx)), rfl⟩

theorem Descriptor.oraAbsy (w : Word) : Descriptor.Statement (.oraAbsy w) :=
  ⟨rfl, (rfl : Descriptor.row 0x19 = some (.ora, .absy)), rfl⟩

theorem Descriptor.oraIndx (b : Byte) : Descriptor.Statement (.oraIndx b) :=
  ⟨rfl, (rfl : Descriptor.row 0x01 = some (.ora, .indx)), rfl⟩

theorem Descriptor.oraIndy (b : Byte) : Descriptor.Statement (.oraIndy b) :=
  ⟨rfl, (rfl : Descriptor.row 0x11 = some (.ora, .indy)), rfl⟩

theorem Descriptor.eorImm (b : Byte) : Descriptor.Statement (.eorImm b) :=
  ⟨rfl, (rfl : Descriptor.row 0x49 = some (.eor, .imm)), rfl⟩

theorem Descriptor.eorZp (b : Byte) : Descriptor.Statement (.eorZp b) :=
  ⟨rfl, (rfl : Descriptor.row 0x45 = some (.eor, .zp)), rfl⟩

theorem Descriptor.eorZpx (b : Byte) : Descriptor.Statement (.eorZpx b) :=
  ⟨rfl, (rfl : Descriptor.row 0x55 = some (.eor, .zpx)), rfl⟩

theorem Descriptor.eorAbs (w : Word) : Descriptor.Statement (.eorAbs w) :=
  ⟨rfl, (rfl : Descriptor.row 0x4D = some (.eor, .abs)), rfl⟩

theorem Descriptor.eorAbsx (w : Word) : Descriptor.Statement (.eorAbsx w) :=
  ⟨rfl, (rfl : Descriptor.row 0x5D = some (.eor, .absx)), rfl⟩

theorem Descriptor.eorAbsy (w : Word) : Descriptor.Statement (.eorAbsy w) :=
  ⟨rfl, (rfl : Descriptor.row 0x59 = some (.eor, .absy)), rfl⟩

theorem Descriptor.eorIndx (b : Byte) : Descriptor.Statement (.eorIndx b) :=
  ⟨rfl, (rfl : Descriptor.row 0x41 = some (.eor, .indx)), rfl⟩

theorem Descriptor.eorIndy (b : Byte) : Descriptor.Statement (.eorIndy b) :=
  ⟨rfl, (rfl : Descriptor.row 0x51 = some (.eor, .indy)), rfl⟩

theorem Descriptor.bitZp (b : Byte) : Descriptor.Statement (.bitZp b) :=
  ⟨rfl, (rfl : Descriptor.row 0x24 = some (.bit, .zp)), rfl⟩

theorem Descriptor.bitAbs (w : Word) : Descriptor.Statement (.bitAbs w) :=
  ⟨rfl, (rfl : Descriptor.row 0x2C = some (.bit, .abs)), rfl⟩

theorem Descriptor.aslAcc : Descriptor.Statement (.aslAcc) :=
  ⟨rfl, (rfl : Descriptor.row 0x0A = some (.asl, .acc)), rfl⟩

theorem Descriptor.aslZp (b : Byte) : Descriptor.Statement (.aslZp b) :=
  ⟨rfl, (rfl : Descriptor.row 0x06 = some (.asl, .zp)), rfl⟩

theorem Descriptor.aslZpx (b : Byte) : Descriptor.Statement (.aslZpx b) :=
  ⟨rfl, (rfl : Descriptor.row 0x16 = some (.asl, .zpx)), rfl⟩

theorem Descriptor.aslAbs (w : Word) : Descriptor.Statement (.aslAbs w) :=
  ⟨rfl, (rfl : Descriptor.row 0x0E = some (.asl, .abs)), rfl⟩

theorem Descriptor.aslAbsx (w : Word) : Descriptor.Statement (.aslAbsx w) :=
  ⟨rfl, (rfl : Descriptor.row 0x1E = some (.asl, .absx)), rfl⟩

theorem Descriptor.lsrAcc : Descriptor.Statement (.lsrAcc) :=
  ⟨rfl, (rfl : Descriptor.row 0x4A = some (.lsr, .acc)), rfl⟩

theorem Descriptor.lsrZp (b : Byte) : Descriptor.Statement (.lsrZp b) :=
  ⟨rfl, (rfl : Descriptor.row 0x46 = some (.lsr, .zp)), rfl⟩

theorem Descriptor.lsrZpx (b : Byte) : Descriptor.Statement (.lsrZpx b) :=
  ⟨rfl, (rfl : Descriptor.row 0x56 = some (.lsr, .zpx)), rfl⟩

theorem Descriptor.lsrAbs (w : Word) : Descriptor.Statement (.lsrAbs w) :=
  ⟨rfl, (rfl : Descriptor.row 0x4E = some (.lsr, .abs)), rfl⟩

theorem Descriptor.lsrAbsx (w : Word) : Descriptor.Statement (.lsrAbsx w) :=
  ⟨rfl, (rfl : Descriptor.row 0x5E = some (.lsr, .absx)), rfl⟩

theorem Descriptor.rolAcc : Descriptor.Statement (.rolAcc) :=
  ⟨rfl, (rfl : Descriptor.row 0x2A = some (.rol, .acc)), rfl⟩

theorem Descriptor.rolZp (b : Byte) : Descriptor.Statement (.rolZp b) :=
  ⟨rfl, (rfl : Descriptor.row 0x26 = some (.rol, .zp)), rfl⟩

theorem Descriptor.rolZpx (b : Byte) : Descriptor.Statement (.rolZpx b) :=
  ⟨rfl, (rfl : Descriptor.row 0x36 = some (.rol, .zpx)), rfl⟩

theorem Descriptor.rolAbs (w : Word) : Descriptor.Statement (.rolAbs w) :=
  ⟨rfl, (rfl : Descriptor.row 0x2E = some (.rol, .abs)), rfl⟩

theorem Descriptor.rolAbsx (w : Word) : Descriptor.Statement (.rolAbsx w) :=
  ⟨rfl, (rfl : Descriptor.row 0x3E = some (.rol, .absx)), rfl⟩

theorem Descriptor.rorAcc : Descriptor.Statement (.rorAcc) :=
  ⟨rfl, (rfl : Descriptor.row 0x6A = some (.ror, .acc)), rfl⟩

theorem Descriptor.rorZp (b : Byte) : Descriptor.Statement (.rorZp b) :=
  ⟨rfl, (rfl : Descriptor.row 0x66 = some (.ror, .zp)), rfl⟩

theorem Descriptor.rorZpx (b : Byte) : Descriptor.Statement (.rorZpx b) :=
  ⟨rfl, (rfl : Descriptor.row 0x76 = some (.ror, .zpx)), rfl⟩

theorem Descriptor.rorAbs (w : Word) : Descriptor.Statement (.rorAbs w) :=
  ⟨rfl, (rfl : Descriptor.row 0x6E = some (.ror, .abs)), rfl⟩

theorem Descriptor.rorAbsx (w : Word) : Descriptor.Statement (.rorAbsx w) :=
  ⟨rfl, (rfl : Descriptor.row 0x7E = some (.ror, .absx)), rfl⟩

theorem Descriptor.bcc (b : Byte) : Descriptor.Statement (.bcc b) :=
  ⟨rfl, (rfl : Descriptor.row 0x90 = some (.bcc, .rel)), rfl⟩

theorem Descriptor.bcs (b : Byte) : Descriptor.Statement (.bcs b) :=
  ⟨rfl, (rfl : Descriptor.row 0xB0 = some (.bcs, .rel)), rfl⟩

theorem Descriptor.beq (b : Byte) : Descriptor.Statement (.beq b) :=
  ⟨rfl, (rfl : Descriptor.row 0xF0 = some (.beq, .rel)), rfl⟩

theorem Descriptor.bne (b : Byte) : Descriptor.Statement (.bne b) :=
  ⟨rfl, (rfl : Descriptor.row 0xD0 = some (.bne, .rel)), rfl⟩

theorem Descriptor.bmi (b : Byte) : Descriptor.Statement (.bmi b) :=
  ⟨rfl, (rfl : Descriptor.row 0x30 = some (.bmi, .rel)), rfl⟩

theorem Descriptor.bpl (b : Byte) : Descriptor.Statement (.bpl b) :=
  ⟨rfl, (rfl : Descriptor.row 0x10 = some (.bpl, .rel)), rfl⟩

theorem Descriptor.bvc (b : Byte) : Descriptor.Statement (.bvc b) :=
  ⟨rfl, (rfl : Descriptor.row 0x50 = some (.bvc, .rel)), rfl⟩

theorem Descriptor.bvs (b : Byte) : Descriptor.Statement (.bvs b) :=
  ⟨rfl, (rfl : Descriptor.row 0x70 = some (.bvs, .rel)), rfl⟩

theorem Descriptor.jmpAbs (w : Word) : Descriptor.Statement (.jmpAbs w) :=
  ⟨rfl, (rfl : Descriptor.row 0x4C = some (.jmp, .abs)), rfl⟩

theorem Descriptor.jmpInd (w : Word) : Descriptor.Statement (.jmpInd w) :=
  ⟨rfl, (rfl : Descriptor.row 0x6C = some (.jmp, .ind)), rfl⟩

theorem Descriptor.jsr (w : Word) : Descriptor.Statement (.jsr w) :=
  ⟨rfl, (rfl : Descriptor.row 0x20 = some (.jsr, .abs)), rfl⟩

theorem Descriptor.rts : Descriptor.Statement (.rts) :=
  ⟨rfl, (rfl : Descriptor.row 0x60 = some (.rts, .imp)), rfl⟩

theorem Descriptor.clc : Descriptor.Statement (.clc) :=
  ⟨rfl, (rfl : Descriptor.row 0x18 = some (.clc, .imp)), rfl⟩

theorem Descriptor.cld : Descriptor.Statement (.cld) :=
  ⟨rfl, (rfl : Descriptor.row 0xD8 = some (.cld, .imp)), rfl⟩

theorem Descriptor.cli : Descriptor.Statement (.cli) :=
  ⟨rfl, (rfl : Descriptor.row 0x58 = some (.cli, .imp)), rfl⟩

theorem Descriptor.clv : Descriptor.Statement (.clv) :=
  ⟨rfl, (rfl : Descriptor.row 0xB8 = some (.clv, .imp)), rfl⟩

theorem Descriptor.sec : Descriptor.Statement (.sec) :=
  ⟨rfl, (rfl : Descriptor.row 0x38 = some (.sec, .imp)), rfl⟩

theorem Descriptor.sed : Descriptor.Statement (.sed) :=
  ⟨rfl, (rfl : Descriptor.row 0xF8 = some (.sed, .imp)), rfl⟩

theorem Descriptor.sei : Descriptor.Statement (.sei) :=
  ⟨rfl, (rfl : Descriptor.row 0x78 = some (.sei, .imp)), rfl⟩

theorem Descriptor.ldaImm (b : Byte) : Descriptor.Statement (.ldaImm b) :=
  ⟨rfl, (rfl : Descriptor.row 0xA9 = some (.lda, .imm)), rfl⟩

theorem Descriptor.ldaZp (b : Byte) : Descriptor.Statement (.ldaZp b) :=
  ⟨rfl, (rfl : Descriptor.row 0xA5 = some (.lda, .zp)), rfl⟩

theorem Descriptor.ldaZpx (b : Byte) : Descriptor.Statement (.ldaZpx b) :=
  ⟨rfl, (rfl : Descriptor.row 0xB5 = some (.lda, .zpx)), rfl⟩

theorem Descriptor.ldaAbs (w : Word) : Descriptor.Statement (.ldaAbs w) :=
  ⟨rfl, (rfl : Descriptor.row 0xAD = some (.lda, .abs)), rfl⟩

theorem Descriptor.ldaAbsx (w : Word) : Descriptor.Statement (.ldaAbsx w) :=
  ⟨rfl, (rfl : Descriptor.row 0xBD = some (.lda, .absx)), rfl⟩

theorem Descriptor.ldaAbsy (w : Word) : Descriptor.Statement (.ldaAbsy w) :=
  ⟨rfl, (rfl : Descriptor.row 0xB9 = some (.lda, .absy)), rfl⟩

theorem Descriptor.ldaIndx (b : Byte) : Descriptor.Statement (.ldaIndx b) :=
  ⟨rfl, (rfl : Descriptor.row 0xA1 = some (.lda, .indx)), rfl⟩

theorem Descriptor.ldaIndy (b : Byte) : Descriptor.Statement (.ldaIndy b) :=
  ⟨rfl, (rfl : Descriptor.row 0xB1 = some (.lda, .indy)), rfl⟩

theorem Descriptor.ldxImm (b : Byte) : Descriptor.Statement (.ldxImm b) :=
  ⟨rfl, (rfl : Descriptor.row 0xA2 = some (.ldx, .imm)), rfl⟩

theorem Descriptor.ldxZp (b : Byte) : Descriptor.Statement (.ldxZp b) :=
  ⟨rfl, (rfl : Descriptor.row 0xA6 = some (.ldx, .zp)), rfl⟩

theorem Descriptor.ldxZpy (b : Byte) : Descriptor.Statement (.ldxZpy b) :=
  ⟨rfl, (rfl : Descriptor.row 0xB6 = some (.ldx, .zpy)), rfl⟩

theorem Descriptor.ldxAbs (w : Word) : Descriptor.Statement (.ldxAbs w) :=
  ⟨rfl, (rfl : Descriptor.row 0xAE = some (.ldx, .abs)), rfl⟩

theorem Descriptor.ldxAbsy (w : Word) : Descriptor.Statement (.ldxAbsy w) :=
  ⟨rfl, (rfl : Descriptor.row 0xBE = some (.ldx, .absy)), rfl⟩

theorem Descriptor.ldyImm (b : Byte) : Descriptor.Statement (.ldyImm b) :=
  ⟨rfl, (rfl : Descriptor.row 0xA0 = some (.ldy, .imm)), rfl⟩

theorem Descriptor.ldyZp (b : Byte) : Descriptor.Statement (.ldyZp b) :=
  ⟨rfl, (rfl : Descriptor.row 0xA4 = some (.ldy, .zp)), rfl⟩

theorem Descriptor.ldyZpx (b : Byte) : Descriptor.Statement (.ldyZpx b) :=
  ⟨rfl, (rfl : Descriptor.row 0xB4 = some (.ldy, .zpx)), rfl⟩

theorem Descriptor.ldyAbs (w : Word) : Descriptor.Statement (.ldyAbs w) :=
  ⟨rfl, (rfl : Descriptor.row 0xAC = some (.ldy, .abs)), rfl⟩

theorem Descriptor.ldyAbsx (w : Word) : Descriptor.Statement (.ldyAbsx w) :=
  ⟨rfl, (rfl : Descriptor.row 0xBC = some (.ldy, .absx)), rfl⟩

theorem Descriptor.staZp (b : Byte) : Descriptor.Statement (.staZp b) :=
  ⟨rfl, (rfl : Descriptor.row 0x85 = some (.sta, .zp)), rfl⟩

theorem Descriptor.staZpx (b : Byte) : Descriptor.Statement (.staZpx b) :=
  ⟨rfl, (rfl : Descriptor.row 0x95 = some (.sta, .zpx)), rfl⟩

theorem Descriptor.staAbs (w : Word) : Descriptor.Statement (.staAbs w) :=
  ⟨rfl, (rfl : Descriptor.row 0x8D = some (.sta, .abs)), rfl⟩

theorem Descriptor.staAbsx (w : Word) : Descriptor.Statement (.staAbsx w) :=
  ⟨rfl, (rfl : Descriptor.row 0x9D = some (.sta, .absx)), rfl⟩

theorem Descriptor.staAbsy (w : Word) : Descriptor.Statement (.staAbsy w) :=
  ⟨rfl, (rfl : Descriptor.row 0x99 = some (.sta, .absy)), rfl⟩

theorem Descriptor.staIndx (b : Byte) : Descriptor.Statement (.staIndx b) :=
  ⟨rfl, (rfl : Descriptor.row 0x81 = some (.sta, .indx)), rfl⟩

theorem Descriptor.staIndy (b : Byte) : Descriptor.Statement (.staIndy b) :=
  ⟨rfl, (rfl : Descriptor.row 0x91 = some (.sta, .indy)), rfl⟩

theorem Descriptor.stxZp (b : Byte) : Descriptor.Statement (.stxZp b) :=
  ⟨rfl, (rfl : Descriptor.row 0x86 = some (.stx, .zp)), rfl⟩

theorem Descriptor.stxZpy (b : Byte) : Descriptor.Statement (.stxZpy b) :=
  ⟨rfl, (rfl : Descriptor.row 0x96 = some (.stx, .zpy)), rfl⟩

theorem Descriptor.stxAbs (w : Word) : Descriptor.Statement (.stxAbs w) :=
  ⟨rfl, (rfl : Descriptor.row 0x8E = some (.stx, .abs)), rfl⟩

theorem Descriptor.styZp (b : Byte) : Descriptor.Statement (.styZp b) :=
  ⟨rfl, (rfl : Descriptor.row 0x84 = some (.sty, .zp)), rfl⟩

theorem Descriptor.styZpx (b : Byte) : Descriptor.Statement (.styZpx b) :=
  ⟨rfl, (rfl : Descriptor.row 0x94 = some (.sty, .zpx)), rfl⟩

theorem Descriptor.styAbs (w : Word) : Descriptor.Statement (.styAbs w) :=
  ⟨rfl, (rfl : Descriptor.row 0x8C = some (.sty, .abs)), rfl⟩

theorem Descriptor.tax : Descriptor.Statement (.tax) :=
  ⟨rfl, (rfl : Descriptor.row 0xAA = some (.tax, .imp)), rfl⟩

theorem Descriptor.tay : Descriptor.Statement (.tay) :=
  ⟨rfl, (rfl : Descriptor.row 0xA8 = some (.tay, .imp)), rfl⟩

theorem Descriptor.txa : Descriptor.Statement (.txa) :=
  ⟨rfl, (rfl : Descriptor.row 0x8A = some (.txa, .imp)), rfl⟩

theorem Descriptor.tya : Descriptor.Statement (.tya) :=
  ⟨rfl, (rfl : Descriptor.row 0x98 = some (.tya, .imp)), rfl⟩

theorem Descriptor.tsx : Descriptor.Statement (.tsx) :=
  ⟨rfl, (rfl : Descriptor.row 0xBA = some (.tsx, .imp)), rfl⟩

theorem Descriptor.txs : Descriptor.Statement (.txs) :=
  ⟨rfl, (rfl : Descriptor.row 0x9A = some (.txs, .imp)), rfl⟩

theorem Descriptor.incZp (b : Byte) : Descriptor.Statement (.incZp b) :=
  ⟨rfl, (rfl : Descriptor.row 0xE6 = some (.inc, .zp)), rfl⟩

theorem Descriptor.incZpx (b : Byte) : Descriptor.Statement (.incZpx b) :=
  ⟨rfl, (rfl : Descriptor.row 0xF6 = some (.inc, .zpx)), rfl⟩

theorem Descriptor.incAbs (w : Word) : Descriptor.Statement (.incAbs w) :=
  ⟨rfl, (rfl : Descriptor.row 0xEE = some (.inc, .abs)), rfl⟩

theorem Descriptor.incAbsx (w : Word) : Descriptor.Statement (.incAbsx w) :=
  ⟨rfl, (rfl : Descriptor.row 0xFE = some (.inc, .absx)), rfl⟩

theorem Descriptor.decZp (b : Byte) : Descriptor.Statement (.decZp b) :=
  ⟨rfl, (rfl : Descriptor.row 0xC6 = some (.dec, .zp)), rfl⟩

theorem Descriptor.decZpx (b : Byte) : Descriptor.Statement (.decZpx b) :=
  ⟨rfl, (rfl : Descriptor.row 0xD6 = some (.dec, .zpx)), rfl⟩

theorem Descriptor.decAbs (w : Word) : Descriptor.Statement (.decAbs w) :=
  ⟨rfl, (rfl : Descriptor.row 0xCE = some (.dec, .abs)), rfl⟩

theorem Descriptor.decAbsx (w : Word) : Descriptor.Statement (.decAbsx w) :=
  ⟨rfl, (rfl : Descriptor.row 0xDE = some (.dec, .absx)), rfl⟩

theorem Descriptor.inx : Descriptor.Statement (.inx) :=
  ⟨rfl, (rfl : Descriptor.row 0xE8 = some (.inx, .imp)), rfl⟩

theorem Descriptor.iny : Descriptor.Statement (.iny) :=
  ⟨rfl, (rfl : Descriptor.row 0xC8 = some (.iny, .imp)), rfl⟩

theorem Descriptor.dex : Descriptor.Statement (.dex) :=
  ⟨rfl, (rfl : Descriptor.row 0xCA = some (.dex, .imp)), rfl⟩

theorem Descriptor.dey : Descriptor.Statement (.dey) :=
  ⟨rfl, (rfl : Descriptor.row 0x88 = some (.dey, .imp)), rfl⟩

theorem Descriptor.pha : Descriptor.Statement (.pha) :=
  ⟨rfl, (rfl : Descriptor.row 0x48 = some (.pha, .imp)), rfl⟩

theorem Descriptor.php : Descriptor.Statement (.php) :=
  ⟨rfl, (rfl : Descriptor.row 0x08 = some (.php, .imp)), rfl⟩

theorem Descriptor.pla : Descriptor.Statement (.pla) :=
  ⟨rfl, (rfl : Descriptor.row 0x68 = some (.pla, .imp)), rfl⟩

theorem Descriptor.plp : Descriptor.Statement (.plp) :=
  ⟨rfl, (rfl : Descriptor.row 0x28 = some (.plp, .imp)), rfl⟩

theorem Descriptor.brk : Descriptor.Statement (.brk) :=
  ⟨rfl, (rfl : Descriptor.row 0x00 = some (.brk, .imp)), rfl⟩

theorem Descriptor.rti : Descriptor.Statement (.rti) :=
  ⟨rfl, (rfl : Descriptor.row 0x40 = some (.rti, .imp)), rfl⟩

theorem Descriptor.nop : Descriptor.Statement (.nop) :=
  ⟨rfl, (rfl : Descriptor.row 0xEA = some (.nop, .imp)), rfl⟩


end Sys2Proof.Laws
end

