-- ==== Sys2Proof/Laws/Step.lean ====
section
/-! SUPPORT. What a step can do. -/

namespace Sys2Proof.Machine

/-- The fetch finds an instruction exactly when the byte at PC has a row. -/
theorem State.fetch_isSome (s : State) : s.fetch.isSome = true ↔ KnownOpcode s := by
  rw [State.fetch, decodeBytes_isSome, KnownOpcode]

/-- A step from a fetched instruction is that instruction's `exec`. -/
theorem step_of_fetch {s : State} {i : Instr} (h : s.fetch = some i) : step s = exec i s := by
  simp [step, h]

/-- Everything a step can do: run the fetched instruction, or report the unknown opcode. -/
theorem step_cases (s : State) :
    (∃ i, s.fetch = some i ∧ step s = exec i s) ∨
      (s.fetch = none ∧ step s = .fault (.unknownOpcode s.pc (s.read s.pc))) := by
  cases h : s.fetch with
  | some i => exact .inl ⟨i, rfl, step_of_fetch h⟩
  | none => exact .inr ⟨rfl, by simp [step, h]⟩

/-- A step that answers a next state ran an instruction. -/
theorem step_eq_next {s t : State} (h : step s = .next t) :
    ∃ i, s.fetch = some i ∧ exec i s = .next t := by
  rcases step_cases s with ⟨i, hf, he⟩ | ⟨_, hf⟩
  · exact ⟨i, hf, he ▸ h⟩
  · rw [hf] at h; cases h

end Sys2Proof.Machine
end

