-- ==== Sys2Proof/Laws/Table.lean ====
section
/-! SUPPORT. The row each defined opcode byte selects, one lemma per row of the table (R57). -/

namespace Sys2Proof

@[simp] theorem lookup_brk :
    lookup 0x00#8 = some ⟨0x00, .brk, .imp, 7, .f1 .brk⟩ := rfl

@[simp] theorem lookup_oraIndx :
    lookup 0x01#8 = some ⟨0x01, .ora, .indx, 6, .f2 .oraIndx⟩ := rfl

@[simp] theorem lookup_oraZp :
    lookup 0x05#8 = some ⟨0x05, .ora, .zp, 3, .f2 .oraZp⟩ := rfl

@[simp] theorem lookup_aslZp :
    lookup 0x06#8 = some ⟨0x06, .asl, .zp, 5, .f2 .aslZp⟩ := rfl

@[simp] theorem lookup_php :
    lookup 0x08#8 = some ⟨0x08, .php, .imp, 3, .f1 .php⟩ := rfl

@[simp] theorem lookup_oraImm :
    lookup 0x09#8 = some ⟨0x09, .ora, .imm, 2, .f2 .oraImm⟩ := rfl

@[simp] theorem lookup_aslAcc :
    lookup 0x0A#8 = some ⟨0x0A, .asl, .acc, 2, .f1 .aslAcc⟩ := rfl

@[simp] theorem lookup_oraAbs :
    lookup 0x0D#8 = some ⟨0x0D, .ora, .abs, 4, .f3 .oraAbs⟩ := rfl

@[simp] theorem lookup_aslAbs :
    lookup 0x0E#8 = some ⟨0x0E, .asl, .abs, 6, .f3 .aslAbs⟩ := rfl

@[simp] theorem lookup_bpl :
    lookup 0x10#8 = some ⟨0x10, .bpl, .rel, 2, .f2 .bpl⟩ := rfl

@[simp] theorem lookup_oraIndy :
    lookup 0x11#8 = some ⟨0x11, .ora, .indy, 5, .f2 .oraIndy⟩ := rfl

@[simp] theorem lookup_oraZpx :
    lookup 0x15#8 = some ⟨0x15, .ora, .zpx, 4, .f2 .oraZpx⟩ := rfl

@[simp] theorem lookup_aslZpx :
    lookup 0x16#8 = some ⟨0x16, .asl, .zpx, 6, .f2 .aslZpx⟩ := rfl

@[simp] theorem lookup_clc :
    lookup 0x18#8 = some ⟨0x18, .clc, .imp, 2, .f1 .clc⟩ := rfl

@[simp] theorem lookup_oraAbsy :
    lookup 0x19#8 = some ⟨0x19, .ora, .absy, 4, .f3 .oraAbsy⟩ := rfl

@[simp] theorem lookup_oraAbsx :
    lookup 0x1D#8 = some ⟨0x1D, .ora, .absx, 4, .f3 .oraAbsx⟩ := rfl

@[simp] theorem lookup_aslAbsx :
    lookup 0x1E#8 = some ⟨0x1E, .asl, .absx, 7, .f3 .aslAbsx⟩ := rfl

@[simp] theorem lookup_jsr :
    lookup 0x20#8 = some ⟨0x20, .jsr, .abs, 6, .f3 .jsr⟩ := rfl

@[simp] theorem lookup_andIndx :
    lookup 0x21#8 = some ⟨0x21, .and, .indx, 6, .f2 .andIndx⟩ := rfl

@[simp] theorem lookup_bitZp :
    lookup 0x24#8 = some ⟨0x24, .bit, .zp, 3, .f2 .bitZp⟩ := rfl

@[simp] theorem lookup_andZp :
    lookup 0x25#8 = some ⟨0x25, .and, .zp, 3, .f2 .andZp⟩ := rfl

@[simp] theorem lookup_rolZp :
    lookup 0x26#8 = some ⟨0x26, .rol, .zp, 5, .f2 .rolZp⟩ := rfl

@[simp] theorem lookup_plp :
    lookup 0x28#8 = some ⟨0x28, .plp, .imp, 4, .f1 .plp⟩ := rfl

@[simp] theorem lookup_andImm :
    lookup 0x29#8 = some ⟨0x29, .and, .imm, 2, .f2 .andImm⟩ := rfl

@[simp] theorem lookup_rolAcc :
    lookup 0x2A#8 = some ⟨0x2A, .rol, .acc, 2, .f1 .rolAcc⟩ := rfl

@[simp] theorem lookup_bitAbs :
    lookup 0x2C#8 = some ⟨0x2C, .bit, .abs, 4, .f3 .bitAbs⟩ := rfl

@[simp] theorem lookup_andAbs :
    lookup 0x2D#8 = some ⟨0x2D, .and, .abs, 4, .f3 .andAbs⟩ := rfl

@[simp] theorem lookup_rolAbs :
    lookup 0x2E#8 = some ⟨0x2E, .rol, .abs, 6, .f3 .rolAbs⟩ := rfl

@[simp] theorem lookup_bmi :
    lookup 0x30#8 = some ⟨0x30, .bmi, .rel, 2, .f2 .bmi⟩ := rfl

@[simp] theorem lookup_andIndy :
    lookup 0x31#8 = some ⟨0x31, .and, .indy, 5, .f2 .andIndy⟩ := rfl

@[simp] theorem lookup_andZpx :
    lookup 0x35#8 = some ⟨0x35, .and, .zpx, 4, .f2 .andZpx⟩ := rfl

@[simp] theorem lookup_rolZpx :
    lookup 0x36#8 = some ⟨0x36, .rol, .zpx, 6, .f2 .rolZpx⟩ := rfl

@[simp] theorem lookup_sec :
    lookup 0x38#8 = some ⟨0x38, .sec, .imp, 2, .f1 .sec⟩ := rfl

@[simp] theorem lookup_andAbsy :
    lookup 0x39#8 = some ⟨0x39, .and, .absy, 4, .f3 .andAbsy⟩ := rfl

@[simp] theorem lookup_andAbsx :
    lookup 0x3D#8 = some ⟨0x3D, .and, .absx, 4, .f3 .andAbsx⟩ := rfl

@[simp] theorem lookup_rolAbsx :
    lookup 0x3E#8 = some ⟨0x3E, .rol, .absx, 7, .f3 .rolAbsx⟩ := rfl

@[simp] theorem lookup_rti :
    lookup 0x40#8 = some ⟨0x40, .rti, .imp, 6, .f1 .rti⟩ := rfl

@[simp] theorem lookup_eorIndx :
    lookup 0x41#8 = some ⟨0x41, .eor, .indx, 6, .f2 .eorIndx⟩ := rfl

@[simp] theorem lookup_eorZp :
    lookup 0x45#8 = some ⟨0x45, .eor, .zp, 3, .f2 .eorZp⟩ := rfl

@[simp] theorem lookup_lsrZp :
    lookup 0x46#8 = some ⟨0x46, .lsr, .zp, 5, .f2 .lsrZp⟩ := rfl

@[simp] theorem lookup_pha :
    lookup 0x48#8 = some ⟨0x48, .pha, .imp, 3, .f1 .pha⟩ := rfl

@[simp] theorem lookup_eorImm :
    lookup 0x49#8 = some ⟨0x49, .eor, .imm, 2, .f2 .eorImm⟩ := rfl

@[simp] theorem lookup_lsrAcc :
    lookup 0x4A#8 = some ⟨0x4A, .lsr, .acc, 2, .f1 .lsrAcc⟩ := rfl

@[simp] theorem lookup_jmpAbs :
    lookup 0x4C#8 = some ⟨0x4C, .jmp, .abs, 3, .f3 .jmpAbs⟩ := rfl

@[simp] theorem lookup_eorAbs :
    lookup 0x4D#8 = some ⟨0x4D, .eor, .abs, 4, .f3 .eorAbs⟩ := rfl

@[simp] theorem lookup_lsrAbs :
    lookup 0x4E#8 = some ⟨0x4E, .lsr, .abs, 6, .f3 .lsrAbs⟩ := rfl

@[simp] theorem lookup_bvc :
    lookup 0x50#8 = some ⟨0x50, .bvc, .rel, 2, .f2 .bvc⟩ := rfl

@[simp] theorem lookup_eorIndy :
    lookup 0x51#8 = some ⟨0x51, .eor, .indy, 5, .f2 .eorIndy⟩ := rfl

@[simp] theorem lookup_eorZpx :
    lookup 0x55#8 = some ⟨0x55, .eor, .zpx, 4, .f2 .eorZpx⟩ := rfl

@[simp] theorem lookup_lsrZpx :
    lookup 0x56#8 = some ⟨0x56, .lsr, .zpx, 6, .f2 .lsrZpx⟩ := rfl

@[simp] theorem lookup_cli :
    lookup 0x58#8 = some ⟨0x58, .cli, .imp, 2, .f1 .cli⟩ := rfl

@[simp] theorem lookup_eorAbsy :
    lookup 0x59#8 = some ⟨0x59, .eor, .absy, 4, .f3 .eorAbsy⟩ := rfl

@[simp] theorem lookup_eorAbsx :
    lookup 0x5D#8 = some ⟨0x5D, .eor, .absx, 4, .f3 .eorAbsx⟩ := rfl

@[simp] theorem lookup_lsrAbsx :
    lookup 0x5E#8 = some ⟨0x5E, .lsr, .absx, 7, .f3 .lsrAbsx⟩ := rfl

@[simp] theorem lookup_rts :
    lookup 0x60#8 = some ⟨0x60, .rts, .imp, 6, .f1 .rts⟩ := rfl

@[simp] theorem lookup_adcIndx :
    lookup 0x61#8 = some ⟨0x61, .adc, .indx, 6, .f2 .adcIndx⟩ := rfl

@[simp] theorem lookup_adcZp :
    lookup 0x65#8 = some ⟨0x65, .adc, .zp, 3, .f2 .adcZp⟩ := rfl

@[simp] theorem lookup_rorZp :
    lookup 0x66#8 = some ⟨0x66, .ror, .zp, 5, .f2 .rorZp⟩ := rfl

@[simp] theorem lookup_pla :
    lookup 0x68#8 = some ⟨0x68, .pla, .imp, 4, .f1 .pla⟩ := rfl

@[simp] theorem lookup_adcImm :
    lookup 0x69#8 = some ⟨0x69, .adc, .imm, 2, .f2 .adcImm⟩ := rfl

@[simp] theorem lookup_rorAcc :
    lookup 0x6A#8 = some ⟨0x6A, .ror, .acc, 2, .f1 .rorAcc⟩ := rfl

@[simp] theorem lookup_jmpInd :
    lookup 0x6C#8 = some ⟨0x6C, .jmp, .ind, 5, .f3 .jmpInd⟩ := rfl

@[simp] theorem lookup_adcAbs :
    lookup 0x6D#8 = some ⟨0x6D, .adc, .abs, 4, .f3 .adcAbs⟩ := rfl

@[simp] theorem lookup_rorAbs :
    lookup 0x6E#8 = some ⟨0x6E, .ror, .abs, 6, .f3 .rorAbs⟩ := rfl

@[simp] theorem lookup_bvs :
    lookup 0x70#8 = some ⟨0x70, .bvs, .rel, 2, .f2 .bvs⟩ := rfl

@[simp] theorem lookup_adcIndy :
    lookup 0x71#8 = some ⟨0x71, .adc, .indy, 5, .f2 .adcIndy⟩ := rfl

@[simp] theorem lookup_adcZpx :
    lookup 0x75#8 = some ⟨0x75, .adc, .zpx, 4, .f2 .adcZpx⟩ := rfl

@[simp] theorem lookup_rorZpx :
    lookup 0x76#8 = some ⟨0x76, .ror, .zpx, 6, .f2 .rorZpx⟩ := rfl

@[simp] theorem lookup_sei :
    lookup 0x78#8 = some ⟨0x78, .sei, .imp, 2, .f1 .sei⟩ := rfl

@[simp] theorem lookup_adcAbsy :
    lookup 0x79#8 = some ⟨0x79, .adc, .absy, 4, .f3 .adcAbsy⟩ := rfl

@[simp] theorem lookup_adcAbsx :
    lookup 0x7D#8 = some ⟨0x7D, .adc, .absx, 4, .f3 .adcAbsx⟩ := rfl

@[simp] theorem lookup_rorAbsx :
    lookup 0x7E#8 = some ⟨0x7E, .ror, .absx, 7, .f3 .rorAbsx⟩ := rfl

@[simp] theorem lookup_staIndx :
    lookup 0x81#8 = some ⟨0x81, .sta, .indx, 6, .f2 .staIndx⟩ := rfl

@[simp] theorem lookup_styZp :
    lookup 0x84#8 = some ⟨0x84, .sty, .zp, 3, .f2 .styZp⟩ := rfl

@[simp] theorem lookup_staZp :
    lookup 0x85#8 = some ⟨0x85, .sta, .zp, 3, .f2 .staZp⟩ := rfl

@[simp] theorem lookup_stxZp :
    lookup 0x86#8 = some ⟨0x86, .stx, .zp, 3, .f2 .stxZp⟩ := rfl

@[simp] theorem lookup_dey :
    lookup 0x88#8 = some ⟨0x88, .dey, .imp, 2, .f1 .dey⟩ := rfl

@[simp] theorem lookup_txa :
    lookup 0x8A#8 = some ⟨0x8A, .txa, .imp, 2, .f1 .txa⟩ := rfl

@[simp] theorem lookup_styAbs :
    lookup 0x8C#8 = some ⟨0x8C, .sty, .abs, 4, .f3 .styAbs⟩ := rfl

@[simp] theorem lookup_staAbs :
    lookup 0x8D#8 = some ⟨0x8D, .sta, .abs, 4, .f3 .staAbs⟩ := rfl

@[simp] theorem lookup_stxAbs :
    lookup 0x8E#8 = some ⟨0x8E, .stx, .abs, 4, .f3 .stxAbs⟩ := rfl

@[simp] theorem lookup_bcc :
    lookup 0x90#8 = some ⟨0x90, .bcc, .rel, 2, .f2 .bcc⟩ := rfl

@[simp] theorem lookup_staIndy :
    lookup 0x91#8 = some ⟨0x91, .sta, .indy, 6, .f2 .staIndy⟩ := rfl

@[simp] theorem lookup_styZpx :
    lookup 0x94#8 = some ⟨0x94, .sty, .zpx, 4, .f2 .styZpx⟩ := rfl

@[simp] theorem lookup_staZpx :
    lookup 0x95#8 = some ⟨0x95, .sta, .zpx, 4, .f2 .staZpx⟩ := rfl

@[simp] theorem lookup_stxZpy :
    lookup 0x96#8 = some ⟨0x96, .stx, .zpy, 4, .f2 .stxZpy⟩ := rfl

@[simp] theorem lookup_tya :
    lookup 0x98#8 = some ⟨0x98, .tya, .imp, 2, .f1 .tya⟩ := rfl

@[simp] theorem lookup_staAbsy :
    lookup 0x99#8 = some ⟨0x99, .sta, .absy, 5, .f3 .staAbsy⟩ := rfl

@[simp] theorem lookup_txs :
    lookup 0x9A#8 = some ⟨0x9A, .txs, .imp, 2, .f1 .txs⟩ := rfl

@[simp] theorem lookup_staAbsx :
    lookup 0x9D#8 = some ⟨0x9D, .sta, .absx, 5, .f3 .staAbsx⟩ := rfl

@[simp] theorem lookup_ldyImm :
    lookup 0xA0#8 = some ⟨0xA0, .ldy, .imm, 2, .f2 .ldyImm⟩ := rfl

@[simp] theorem lookup_ldaIndx :
    lookup 0xA1#8 = some ⟨0xA1, .lda, .indx, 6, .f2 .ldaIndx⟩ := rfl

@[simp] theorem lookup_ldxImm :
    lookup 0xA2#8 = some ⟨0xA2, .ldx, .imm, 2, .f2 .ldxImm⟩ := rfl

@[simp] theorem lookup_ldyZp :
    lookup 0xA4#8 = some ⟨0xA4, .ldy, .zp, 3, .f2 .ldyZp⟩ := rfl

@[simp] theorem lookup_ldaZp :
    lookup 0xA5#8 = some ⟨0xA5, .lda, .zp, 3, .f2 .ldaZp⟩ := rfl

@[simp] theorem lookup_ldxZp :
    lookup 0xA6#8 = some ⟨0xA6, .ldx, .zp, 3, .f2 .ldxZp⟩ := rfl

@[simp] theorem lookup_tay :
    lookup 0xA8#8 = some ⟨0xA8, .tay, .imp, 2, .f1 .tay⟩ := rfl

@[simp] theorem lookup_ldaImm :
    lookup 0xA9#8 = some ⟨0xA9, .lda, .imm, 2, .f2 .ldaImm⟩ := rfl

@[simp] theorem lookup_tax :
    lookup 0xAA#8 = some ⟨0xAA, .tax, .imp, 2, .f1 .tax⟩ := rfl

@[simp] theorem lookup_ldyAbs :
    lookup 0xAC#8 = some ⟨0xAC, .ldy, .abs, 4, .f3 .ldyAbs⟩ := rfl

@[simp] theorem lookup_ldaAbs :
    lookup 0xAD#8 = some ⟨0xAD, .lda, .abs, 4, .f3 .ldaAbs⟩ := rfl

@[simp] theorem lookup_ldxAbs :
    lookup 0xAE#8 = some ⟨0xAE, .ldx, .abs, 4, .f3 .ldxAbs⟩ := rfl

@[simp] theorem lookup_bcs :
    lookup 0xB0#8 = some ⟨0xB0, .bcs, .rel, 2, .f2 .bcs⟩ := rfl

@[simp] theorem lookup_ldaIndy :
    lookup 0xB1#8 = some ⟨0xB1, .lda, .indy, 5, .f2 .ldaIndy⟩ := rfl

@[simp] theorem lookup_ldyZpx :
    lookup 0xB4#8 = some ⟨0xB4, .ldy, .zpx, 4, .f2 .ldyZpx⟩ := rfl

@[simp] theorem lookup_ldaZpx :
    lookup 0xB5#8 = some ⟨0xB5, .lda, .zpx, 4, .f2 .ldaZpx⟩ := rfl

@[simp] theorem lookup_ldxZpy :
    lookup 0xB6#8 = some ⟨0xB6, .ldx, .zpy, 4, .f2 .ldxZpy⟩ := rfl

@[simp] theorem lookup_clv :
    lookup 0xB8#8 = some ⟨0xB8, .clv, .imp, 2, .f1 .clv⟩ := rfl

@[simp] theorem lookup_ldaAbsy :
    lookup 0xB9#8 = some ⟨0xB9, .lda, .absy, 4, .f3 .ldaAbsy⟩ := rfl

@[simp] theorem lookup_tsx :
    lookup 0xBA#8 = some ⟨0xBA, .tsx, .imp, 2, .f1 .tsx⟩ := rfl

@[simp] theorem lookup_ldyAbsx :
    lookup 0xBC#8 = some ⟨0xBC, .ldy, .absx, 4, .f3 .ldyAbsx⟩ := rfl

@[simp] theorem lookup_ldaAbsx :
    lookup 0xBD#8 = some ⟨0xBD, .lda, .absx, 4, .f3 .ldaAbsx⟩ := rfl

@[simp] theorem lookup_ldxAbsy :
    lookup 0xBE#8 = some ⟨0xBE, .ldx, .absy, 4, .f3 .ldxAbsy⟩ := rfl

@[simp] theorem lookup_cpyImm :
    lookup 0xC0#8 = some ⟨0xC0, .cpy, .imm, 2, .f2 .cpyImm⟩ := rfl

@[simp] theorem lookup_cmpIndx :
    lookup 0xC1#8 = some ⟨0xC1, .cmp, .indx, 6, .f2 .cmpIndx⟩ := rfl

@[simp] theorem lookup_cpyZp :
    lookup 0xC4#8 = some ⟨0xC4, .cpy, .zp, 3, .f2 .cpyZp⟩ := rfl

@[simp] theorem lookup_cmpZp :
    lookup 0xC5#8 = some ⟨0xC5, .cmp, .zp, 3, .f2 .cmpZp⟩ := rfl

@[simp] theorem lookup_decZp :
    lookup 0xC6#8 = some ⟨0xC6, .dec, .zp, 5, .f2 .decZp⟩ := rfl

@[simp] theorem lookup_iny :
    lookup 0xC8#8 = some ⟨0xC8, .iny, .imp, 2, .f1 .iny⟩ := rfl

@[simp] theorem lookup_cmpImm :
    lookup 0xC9#8 = some ⟨0xC9, .cmp, .imm, 2, .f2 .cmpImm⟩ := rfl

@[simp] theorem lookup_dex :
    lookup 0xCA#8 = some ⟨0xCA, .dex, .imp, 2, .f1 .dex⟩ := rfl

@[simp] theorem lookup_cpyAbs :
    lookup 0xCC#8 = some ⟨0xCC, .cpy, .abs, 4, .f3 .cpyAbs⟩ := rfl

@[simp] theorem lookup_cmpAbs :
    lookup 0xCD#8 = some ⟨0xCD, .cmp, .abs, 4, .f3 .cmpAbs⟩ := rfl

@[simp] theorem lookup_decAbs :
    lookup 0xCE#8 = some ⟨0xCE, .dec, .abs, 6, .f3 .decAbs⟩ := rfl

@[simp] theorem lookup_bne :
    lookup 0xD0#8 = some ⟨0xD0, .bne, .rel, 2, .f2 .bne⟩ := rfl

@[simp] theorem lookup_cmpIndy :
    lookup 0xD1#8 = some ⟨0xD1, .cmp, .indy, 5, .f2 .cmpIndy⟩ := rfl

@[simp] theorem lookup_cmpZpx :
    lookup 0xD5#8 = some ⟨0xD5, .cmp, .zpx, 4, .f2 .cmpZpx⟩ := rfl

@[simp] theorem lookup_decZpx :
    lookup 0xD6#8 = some ⟨0xD6, .dec, .zpx, 6, .f2 .decZpx⟩ := rfl

@[simp] theorem lookup_cld :
    lookup 0xD8#8 = some ⟨0xD8, .cld, .imp, 2, .f1 .cld⟩ := rfl

@[simp] theorem lookup_cmpAbsy :
    lookup 0xD9#8 = some ⟨0xD9, .cmp, .absy, 4, .f3 .cmpAbsy⟩ := rfl

@[simp] theorem lookup_cmpAbsx :
    lookup 0xDD#8 = some ⟨0xDD, .cmp, .absx, 4, .f3 .cmpAbsx⟩ := rfl

@[simp] theorem lookup_decAbsx :
    lookup 0xDE#8 = some ⟨0xDE, .dec, .absx, 7, .f3 .decAbsx⟩ := rfl

@[simp] theorem lookup_cpxImm :
    lookup 0xE0#8 = some ⟨0xE0, .cpx, .imm, 2, .f2 .cpxImm⟩ := rfl

@[simp] theorem lookup_sbcIndx :
    lookup 0xE1#8 = some ⟨0xE1, .sbc, .indx, 6, .f2 .sbcIndx⟩ := rfl

@[simp] theorem lookup_cpxZp :
    lookup 0xE4#8 = some ⟨0xE4, .cpx, .zp, 3, .f2 .cpxZp⟩ := rfl

@[simp] theorem lookup_sbcZp :
    lookup 0xE5#8 = some ⟨0xE5, .sbc, .zp, 3, .f2 .sbcZp⟩ := rfl

@[simp] theorem lookup_incZp :
    lookup 0xE6#8 = some ⟨0xE6, .inc, .zp, 5, .f2 .incZp⟩ := rfl

@[simp] theorem lookup_inx :
    lookup 0xE8#8 = some ⟨0xE8, .inx, .imp, 2, .f1 .inx⟩ := rfl

@[simp] theorem lookup_sbcImm :
    lookup 0xE9#8 = some ⟨0xE9, .sbc, .imm, 2, .f2 .sbcImm⟩ := rfl

@[simp] theorem lookup_nop :
    lookup 0xEA#8 = some ⟨0xEA, .nop, .imp, 2, .f1 .nop⟩ := rfl

@[simp] theorem lookup_cpxAbs :
    lookup 0xEC#8 = some ⟨0xEC, .cpx, .abs, 4, .f3 .cpxAbs⟩ := rfl

@[simp] theorem lookup_sbcAbs :
    lookup 0xED#8 = some ⟨0xED, .sbc, .abs, 4, .f3 .sbcAbs⟩ := rfl

@[simp] theorem lookup_incAbs :
    lookup 0xEE#8 = some ⟨0xEE, .inc, .abs, 6, .f3 .incAbs⟩ := rfl

@[simp] theorem lookup_beq :
    lookup 0xF0#8 = some ⟨0xF0, .beq, .rel, 2, .f2 .beq⟩ := rfl

@[simp] theorem lookup_sbcIndy :
    lookup 0xF1#8 = some ⟨0xF1, .sbc, .indy, 5, .f2 .sbcIndy⟩ := rfl

@[simp] theorem lookup_sbcZpx :
    lookup 0xF5#8 = some ⟨0xF5, .sbc, .zpx, 4, .f2 .sbcZpx⟩ := rfl

@[simp] theorem lookup_incZpx :
    lookup 0xF6#8 = some ⟨0xF6, .inc, .zpx, 6, .f2 .incZpx⟩ := rfl

@[simp] theorem lookup_sed :
    lookup 0xF8#8 = some ⟨0xF8, .sed, .imp, 2, .f1 .sed⟩ := rfl

@[simp] theorem lookup_sbcAbsy :
    lookup 0xF9#8 = some ⟨0xF9, .sbc, .absy, 4, .f3 .sbcAbsy⟩ := rfl

@[simp] theorem lookup_sbcAbsx :
    lookup 0xFD#8 = some ⟨0xFD, .sbc, .absx, 4, .f3 .sbcAbsx⟩ := rfl

@[simp] theorem lookup_incAbsx :
    lookup 0xFE#8 = some ⟨0xFE, .inc, .absx, 7, .f3 .incAbsx⟩ := rfl

end Sys2Proof
end

