-- ==== Sys2Proof/Tests/Slice0.lean ====
section
/-! SUPPORT. The model's own tests: the well-formedness smoke test, every opcode byte of R57 written out and
decoded, one step of each mnemonic from the vectors of spec/95_test_vectors.md, and for each statement with
hypotheses a witness that meets them. Expected results are the spec's. -/

namespace Sys2Proof.Tests

open Sys2Proof Sys2Proof.Machine

/-! ## Well-formedness (R57): a pairing that the opcode map lacks is refused -/

theorem test_no_store_immediate : Mnemonic.sta.accepts (.imm 0x05) = false := by decide
theorem test_no_ldx_zeropage_x : Mnemonic.ldx.accepts (.mem (.zpx 0x05)) = false := by decide
theorem test_no_lda_zeropage_y : Mnemonic.lda.accepts (.mem (.zpy 0x05)) = false := by decide
theorem test_no_jsr_indirect : Mnemonic.jsr.accepts (.mem (.ind 0x1234)) = false := by decide
theorem test_no_branch_absolute : Mnemonic.bne.accepts (.mem (.abs 0x1234)) = false := by decide
theorem test_no_inc_accumulator : Mnemonic.inc.accepts .acc = false := by decide
theorem test_no_nop_operand : Mnemonic.nop.accepts (.imm 0x00) = false := by decide
theorem test_sta_zeropage_is_formed : (Instr.staZp 0x05).wellFormed = true := by decide

/-! ## Decoding: each byte of R57, bit by bit as the opcode table's encodings write it, followed by 34 12 -/

/-- The instruction a byte selects when 34 12 follow it. -/
def decodes (opc : Byte) : Option Instr := decodeBytes opc 0x34 0x12

theorem test_words_stackSystem : ∀ p ∈
    ([(0b00000000, .brk), (0b00001000, .php), (0b00101000, .plp), (0b01000000, .rti),
     (0b01001000, .pha), (0b01101000, .pla), (0b11101010, .nop)] : List (Byte × Instr)),
    decodes p.1 = some p.2 := by decide

theorem test_words_logical : ∀ p ∈
    ([(0b00000001, .oraIndx 0x34), (0b00000101, .oraZp 0x34), (0b00001001, .oraImm 0x34),
     (0b00001101, .oraAbs 0x1234), (0b00010001, .oraIndy 0x34), (0b00010101, .oraZpx 0x34),
     (0b00011001, .oraAbsy 0x1234), (0b00011101, .oraAbsx 0x1234), (0b00100001, .andIndx 0x34),
     (0b00100100, .bitZp 0x34), (0b00100101, .andZp 0x34), (0b00101001, .andImm 0x34),
     (0b00101100, .bitAbs 0x1234), (0b00101101, .andAbs 0x1234), (0b00110001, .andIndy 0x34),
     (0b00110101, .andZpx 0x34), (0b00111001, .andAbsy 0x1234), (0b00111101, .andAbsx 0x1234),
     (0b01000001, .eorIndx 0x34), (0b01000101, .eorZp 0x34), (0b01001001, .eorImm 0x34),
     (0b01001101, .eorAbs 0x1234), (0b01010001, .eorIndy 0x34), (0b01010101, .eorZpx 0x34),
     (0b01011001, .eorAbsy 0x1234), (0b01011101, .eorAbsx 0x1234)] : List (Byte × Instr)),
    decodes p.1 = some p.2 := by decide

theorem test_words_shift : ∀ p ∈
    ([(0b00000110, .aslZp 0x34), (0b00001010, .aslAcc), (0b00001110, .aslAbs 0x1234),
     (0b00010110, .aslZpx 0x34), (0b00011110, .aslAbsx 0x1234), (0b00100110, .rolZp 0x34),
     (0b00101010, .rolAcc), (0b00101110, .rolAbs 0x1234), (0b00110110, .rolZpx 0x34),
     (0b00111110, .rolAbsx 0x1234), (0b01000110, .lsrZp 0x34), (0b01001010, .lsrAcc),
     (0b01001110, .lsrAbs 0x1234), (0b01010110, .lsrZpx 0x34), (0b01011110, .lsrAbsx 0x1234),
     (0b01100110, .rorZp 0x34), (0b01101010, .rorAcc), (0b01101110, .rorAbs 0x1234),
     (0b01110110, .rorZpx 0x34), (0b01111110, .rorAbsx 0x1234)] : List (Byte × Instr)),
    decodes p.1 = some p.2 := by decide

theorem test_words_control : ∀ p ∈
    ([(0b00010000, .bpl 0x34), (0b00100000, .jsr 0x1234), (0b00110000, .bmi 0x34),
     (0b01001100, .jmpAbs 0x1234), (0b01010000, .bvc 0x34), (0b01100000, .rts),
     (0b01101100, .jmpInd 0x1234), (0b01110000, .bvs 0x34), (0b10010000, .bcc 0x34),
     (0b10110000, .bcs 0x34), (0b11010000, .bne 0x34), (0b11110000, .beq 0x34)] : List (Byte × Instr)),
    decodes p.1 = some p.2 := by decide

theorem test_words_flagOps : ∀ p ∈
    ([(0b00011000, .clc), (0b00111000, .sec), (0b01011000, .cli), (0b01111000, .sei),
     (0b10111000, .clv), (0b11011000, .cld), (0b11111000, .sed)] : List (Byte × Instr)),
    decodes p.1 = some p.2 := by decide

theorem test_words_arithmetic_1 : ∀ p ∈
    ([(0b01100001, .adcIndx 0x34), (0b01100101, .adcZp 0x34), (0b01101001, .adcImm 0x34),
     (0b01101101, .adcAbs 0x1234), (0b01110001, .adcIndy 0x34), (0b01110101, .adcZpx 0x34),
     (0b01111001, .adcAbsy 0x1234), (0b01111101, .adcAbsx 0x1234), (0b11000000, .cpyImm 0x34),
     (0b11000001, .cmpIndx 0x34), (0b11000100, .cpyZp 0x34), (0b11000101, .cmpZp 0x34),
     (0b11001001, .cmpImm 0x34), (0b11001100, .cpyAbs 0x1234), (0b11001101, .cmpAbs 0x1234),
     (0b11010001, .cmpIndy 0x34), (0b11010101, .cmpZpx 0x34), (0b11011001, .cmpAbsy 0x1234),
     (0b11011101, .cmpAbsx 0x1234), (0b11100000, .cpxImm 0x34), (0b11100001, .sbcIndx 0x34),
     (0b11100100, .cpxZp 0x34), (0b11100101, .sbcZp 0x34), (0b11101001, .sbcImm 0x34),
     (0b11101100, .cpxAbs 0x1234), (0b11101101, .sbcAbs 0x1234)] : List (Byte × Instr)),
    decodes p.1 = some p.2 := by decide

theorem test_words_arithmetic_2 : ∀ p ∈
    ([(0b11110001, .sbcIndy 0x34), (0b11110101, .sbcZpx 0x34), (0b11111001, .sbcAbsy 0x1234),
     (0b11111101, .sbcAbsx 0x1234)] : List (Byte × Instr)),
    decodes p.1 = some p.2 := by decide

theorem test_words_transfer_1 : ∀ p ∈
    ([(0b10000001, .staIndx 0x34), (0b10000100, .styZp 0x34), (0b10000101, .staZp 0x34),
     (0b10000110, .stxZp 0x34), (0b10001010, .txa), (0b10001100, .styAbs 0x1234),
     (0b10001101, .staAbs 0x1234), (0b10001110, .stxAbs 0x1234), (0b10010001, .staIndy 0x34),
     (0b10010100, .styZpx 0x34), (0b10010101, .staZpx 0x34), (0b10010110, .stxZpy 0x34),
     (0b10011000, .tya), (0b10011001, .staAbsy 0x1234), (0b10011010, .txs),
     (0b10011101, .staAbsx 0x1234), (0b10100000, .ldyImm 0x34), (0b10100001, .ldaIndx 0x34),
     (0b10100010, .ldxImm 0x34), (0b10100100, .ldyZp 0x34), (0b10100101, .ldaZp 0x34),
     (0b10100110, .ldxZp 0x34), (0b10101000, .tay), (0b10101001, .ldaImm 0x34),
     (0b10101010, .tax), (0b10101100, .ldyAbs 0x1234)] : List (Byte × Instr)),
    decodes p.1 = some p.2 := by decide

theorem test_words_transfer_2 : ∀ p ∈
    ([(0b10101101, .ldaAbs 0x1234), (0b10101110, .ldxAbs 0x1234), (0b10110001, .ldaIndy 0x34),
     (0b10110100, .ldyZpx 0x34), (0b10110101, .ldaZpx 0x34), (0b10110110, .ldxZpy 0x34),
     (0b10111001, .ldaAbsy 0x1234), (0b10111010, .tsx), (0b10111100, .ldyAbsx 0x1234),
     (0b10111101, .ldaAbsx 0x1234), (0b10111110, .ldxAbsy 0x1234)] : List (Byte × Instr)),
    decodes p.1 = some p.2 := by decide

theorem test_words_incDec : ∀ p ∈
    ([(0b10001000, .dey), (0b11000110, .decZp 0x34), (0b11001000, .iny), (0b11001010, .dex),
     (0b11001110, .decAbs 0x1234), (0b11010110, .decZpx 0x34), (0b11011110, .decAbsx 0x1234),
     (0b11100110, .incZp 0x34), (0b11101000, .inx), (0b11101110, .incAbs 0x1234),
     (0b11110110, .incZpx 0x34), (0b11111110, .incAbsx 0x1234)] : List (Byte × Instr)),
    decodes p.1 = some p.2 := by decide

theorem test_unknown_opcodes : ∀ b ∈ Forms.unknownOpcodes, decodes b = none := by decide

/-- The bytes of `STX $10,Y` run into no second byte. -/
theorem test_truncated : decode [0x96] = .error .truncated := rfl

theorem test_encode_absolute : encode (.ldaAbsx 0x4400) = [0xBD, 0x00, 0x44] := by decide
theorem test_encode_relative : encode (.bcc 0xFE) = [0x90, 0xFE] := by decide
theorem test_encode_implied : encode .nop = [0xEA] := by decide

theorem test_table_word_one_byte : decodeTableWord 8 0xEA = some .nop := by decide
theorem test_table_word_operand : decodeTableWord 24 0x1234BD = some (.ldaAbsx 0x1234) := by decide
theorem test_table_word_short : decodeTableWord 8 0x69 = some (.adcImm 0x00) := by decide
theorem test_table_word_unknown : decodeTableWord 8 0x02 = none := by decide

/-! ## Operand text and trace record (R60) -/

theorem test_text_immediate : operandText 0x0600 (.imm 0x19) = ['#', '$', '1', '9'] := by decide
theorem test_text_indirect_y :
    operandText 0x0600 (.mem (.indy 0x40)) = ['(', '$', '4', '0', ')', ',', 'Y'] := by decide
theorem test_text_branch_target :
    operandText 0x0600 (.rel 0xFE) = ['$', '0', '6', '0', '0'] := by decide

/-! ## One step: vectors of spec/95_test_vectors.md -/

/-- The base state of spec/95_test_vectors.md, section 0. -/
def base : State := { State.reset with pc := 0x0600, sp := 0xFF }

/-- The flags in the order N V B D I Z C. -/
def flags (s : State) : List Bool :=
  [s.flagN, s.flagV, s.flagB, s.flagD, s.flagI, s.flagZ, s.flagC]

/-- A state with data bytes stored and then instruction bytes at PC. -/
def placed (s : State) (data : List (Word × Byte)) (bytes : List Byte) : State :=
  (data.foldl (fun u p => u.write p.1 p.2) s).hostLoad s.pc bytes

/-- What a look at the state after one step shows; none where the step answers no next state. -/
def seen {α : Type} (s : State) (data : List (Word × Byte)) (bytes : List Byte)
    (look : State → α) : Option α :=
  match step (placed s data bytes) with
  | .next t => some (look t)
  | _ => none

/-- `ADC #$40` (AR08). -/
theorem test_adc_ar08 : seen { base with a := 0x3F, flagC := true }
    [] [0x69, 0x40]
    (fun t => (t.a, t.pc, flags t)) =
    some (0x80, 0x0602, [true, true, false, false, false, false, false]) := by decide

/-- `ADC #$09` (AR10). -/
theorem test_adc_ar10 : seen { base with a := 0x09, flagD := true }
    [] [0x69, 0x09]
    (fun t => (t.a, t.pc, flags t)) =
    some (0x12, 0x0602, [false, false, false, true, false, false, false]) := by decide

/-- `SBC #$F0` (AR12). -/
theorem test_sbc_ar12 : seen { base with a := 0x50, flagC := true }
    [] [0xE9, 0xF0]
    (fun t => (t.a, t.pc, flags t)) =
    some (0x60, 0x0602, [false, false, false, false, false, false, false]) := by decide

/-- `SBC #$01` (AR15). -/
theorem test_sbc_ar15 : seen { base with a := 0x80, flagC := true }
    [] [0xE9, 0x01]
    (fun t => (t.a, t.pc, flags t)) =
    some (0x7F, 0x0602, [false, true, false, false, false, false, true]) := by decide

/-- `CMP #$01` (AR26). -/
theorem test_cmp_ar26 : seen { base with a := 0x80 }
    [] [0xC9, 0x01]
    (fun t => (t.pc, flags t)) =
    some (0x0602, [false, false, false, false, false, false, true]) := by decide

/-- `CMP $0200,Y` (AM17). -/
theorem test_cmp_am17 : seen { base with a := 0x10, y := 0x03 }
    [(0x0203, 0x10)] [0xD9, 0x00, 0x02]
    (fun t => (t.pc, flags t)) =
    some (0x0603, [false, false, false, false, false, true, true]) := by decide

/-- `CPX #$10` (AR31). -/
theorem test_cpx_ar31 : seen { base with x := 0x10 }
    [] [0xE0, 0x10]
    (fun t => (t.pc, flags t)) =
    some (0x0602, [false, false, false, false, false, true, true]) := by decide

/-- `CPX $10` (AR32). -/
theorem test_cpx_ar32 : seen { base with x := 0x00 }
    [(0x0010, 0x01)] [0xE4, 0x10]
    (fun t => (t.pc, flags t)) =
    some (0x0602, [true, false, false, false, false, false, false]) := by decide

/-- `CPY #$01` (AR33). -/
theorem test_cpy_ar33 : seen base
    [] [0xC0, 0x01]
    (fun t => (t.pc, flags t)) =
    some (0x0602, [true, false, false, false, false, false, false]) := by decide

/-- `CPY $0200` (AR34). -/
theorem test_cpy_ar34 : seen { base with y := 0x80 }
    [(0x0200, 0x7F)] [0xCC, 0x00, 0x02]
    (fun t => (t.pc, flags t)) =
    some (0x0603, [false, false, false, false, false, false, true]) := by decide

/-- `AND #$19` (LG01). -/
theorem test_and_lg01 : seen { base with pc := 0x0000, a := 0x19 }
    [] [0x29, 0x19]
    (fun t => (t.pc, flags t)) =
    some (0x0002, [false, false, false, false, false, false, false]) := by decide

/-- `AND #$FF` (LG02). -/
theorem test_and_lg02 : seen { base with a := 0xA5, flagC := true, flagV := true }
    [] [0x29, 0xFF]
    (fun t => (t.pc, flags t)) =
    some (0x0602, [true, true, false, false, false, false, true]) := by decide

/-- `ORA #$00` (LG06). -/
theorem test_ora_lg06 : seen { base with a := 0x5A, flagC := true, flagV := true }
    [] [0x09, 0x00]
    (fun t => (t.pc, flags t)) =
    some (0x0602, [false, true, false, false, false, false, true]) := by decide

/-- `ORA #$FF` (LG08). -/
theorem test_ora_lg08 : seen { base with a := 0x12 }
    [] [0x09, 0xFF]
    (fun t => (t.a, t.pc, flags t)) =
    some (0xFF, 0x0602, [true, false, false, false, false, false, false]) := by decide

/-- `EOR #$FF` (LG09). -/
theorem test_eor_lg09 : seen { base with a := 0x0F }
    [] [0x49, 0xFF]
    (fun t => (t.a, t.pc, flags t)) =
    some (0xF0, 0x0602, [true, false, false, false, false, false, false]) := by decide

/-- `EOR ($20),Y` (AM18). -/
theorem test_eor_am18 : seen { base with a := 0xFF, y := 0x00 }
    [(0x0020, 0x00), (0x0021, 0x02), (0x0200, 0x0F)] [0x51, 0x20]
    (fun t => (t.a, t.pc, flags t)) =
    some (0xF0, 0x0602, [true, false, false, false, false, false, false]) := by decide

/-- `BIT $10` (LG13). -/
theorem test_bit_lg13 : seen { base with a := 0x3F }
    [(0x0010, 0xC0)] [0x24, 0x10]
    (fun t => (t.pc, flags t)) =
    some (0x0602, [true, true, false, false, false, true, false]) := by decide

/-- `BIT $10` (LG15). -/
theorem test_bit_lg15 : seen { base with a := 0x80, flagC := true }
    [(0x0010, 0x80)] [0x24, 0x10]
    (fun t => (t.pc, flags t)) =
    some (0x0602, [true, false, false, false, false, false, true]) := by decide

/-- `ASL A` (SH04). -/
theorem test_asl_sh04 : seen { base with flagC := true }
    [] [0x0A]
    (fun t => (t.pc, flags t)) =
    some (0x0601, [false, false, false, false, false, true, false]) := by decide

/-- `ASL $10,X` (SH06). -/
theorem test_asl_sh06 : seen { base with x := 0xF1 }
    [(0x0001, 0x01)] [0x16, 0x10]
    (fun t => ([t.read 0x0001], t.pc, flags t)) =
    some ([0x02], 0x0602, [false, false, false, false, false, false, false]) := by decide

/-- `LSR A` (SH10). -/
theorem test_lsr_sh10 : seen { base with a := 0x01, flagN := true }
    [] [0x4A]
    (fun t => (t.a, t.pc, flags t)) =
    some (0x00, 0x0601, [false, false, false, false, false, true, true]) := by decide

/-- `LSR $0200,X` (SH15). -/
theorem test_lsr_sh15 : seen { base with x := 0x10 }
    [(0x0210, 0x81)] [0x5E, 0x00, 0x02]
    (fun t => ([t.read 0x0210], t.pc, flags t)) =
    some ([0x40], 0x0603, [false, false, false, false, false, false, true]) := by decide

/-- `ROL A` (SH16). -/
theorem test_rol_sh16 : seen { base with a := 0x80, flagC := true }
    [] [0x2A]
    (fun t => (t.a, t.pc, flags t)) =
    some (0x01, 0x0601, [false, false, false, false, false, false, true]) := by decide

/-- `ROL $10` (SH21). -/
theorem test_rol_sh21 : seen { base with flagC := true }
    [(0x0010, 0x55)] [0x26, 0x10]
    (fun t => ([t.read 0x0010], t.pc, flags t)) =
    some ([0xAB], 0x0602, [true, false, false, false, false, false, false]) := by decide

/-- `ROR $20` (SH23). -/
theorem test_ror_sh23 : seen { base with flagC := true }
    [(0x0020, 0x01)] [0x66, 0x20]
    (fun t => ([t.read 0x0020], t.pc, flags t)) =
    some ([0x80], 0x0602, [true, false, false, false, false, false, true]) := by decide

/-- `ROR A` (SH25). -/
theorem test_ror_sh25 : seen { base with flagC := true }
    [] [0x6A]
    (fun t => (t.a, t.pc, flags t)) =
    some (0x80, 0x0601, [true, false, false, false, false, false, false]) := by decide

/-- `BCC $0600` (BR01). -/
theorem test_bcc_br01 : seen base
    [] [0x90, 0xFE]
    (fun t => (t.pc, flags t)) =
    some (0x0600, [false, false, false, false, false, false, false]) := by decide

/-- `BCC $0005` (BR20). -/
theorem test_bcc_br20 : seen { base with pc := 0xFFFF }
    [] [0x90, 0x04]
    (fun t => (t.pc, flags t)) =
    some (0x0005, [false, false, false, false, false, false, false]) := by decide

/-- `BCS $0606` (BR03). -/
theorem test_bcs_br03 : seen { base with flagC := true }
    [] [0xB0, 0x04]
    (fun t => (t.pc, flags t)) =
    some (0x0606, [false, false, false, false, false, false, true]) := by decide

/-- `BCS $0606` (BR04). -/
theorem test_bcs_br04 : seen base
    [] [0xB0, 0x04]
    (fun t => (t.pc, flags t)) =
    some (0x0602, [false, false, false, false, false, false, false]) := by decide

/-- `BEQ $0612` (BR05). -/
theorem test_beq_br05 : seen { base with flagZ := true }
    [] [0xF0, 0x10]
    (fun t => (t.pc, flags t)) =
    some (0x0612, [false, false, false, false, false, true, false]) := by decide

/-- `BEQ $0612` (BR06). -/
theorem test_beq_br06 : seen base
    [] [0xF0, 0x10]
    (fun t => (t.pc, flags t)) =
    some (0x0602, [false, false, false, false, false, false, false]) := by decide

/-- `BNE $0071` (BR18). -/
theorem test_bne_br18 : seen { base with pc := 0xFFF0 }
    [] [0xD0, 0x7F]
    (fun t => (t.pc, flags t)) =
    some (0x0071, [false, false, false, false, false, false, false]) := by decide

/-- `BNE $0602` (BR08). -/
theorem test_bne_br08 : seen { base with pc := 0x0603, flagZ := true }
    [] [0xD0, 0xFD]
    (fun t => (t.pc, flags t)) =
    some (0x0605, [false, false, false, false, false, true, false]) := by decide

/-- `BMI $0681` (BR09). -/
theorem test_bmi_br09 : seen { base with flagN := true }
    [] [0x30, 0x7F]
    (fun t => (t.pc, flags t)) =
    some (0x0681, [true, false, false, false, false, false, false]) := by decide

/-- `BMI $0681` (BR10). -/
theorem test_bmi_br10 : seen base
    [] [0x30, 0x7F]
    (fun t => (t.pc, flags t)) =
    some (0x0602, [false, false, false, false, false, false, false]) := by decide

/-- `BPL $0582` (BR11). -/
theorem test_bpl_br11 : seen base
    [] [0x10, 0x80]
    (fun t => (t.pc, flags t)) =
    some (0x0582, [false, false, false, false, false, false, false]) := by decide

/-- `BPL $0582` (BR12). -/
theorem test_bpl_br12 : seen { base with flagN := true }
    [] [0x10, 0x80]
    (fun t => (t.pc, flags t)) =
    some (0x0602, [true, false, false, false, false, false, false]) := by decide

/-- `BVC $0604` (BR13). -/
theorem test_bvc_br13 : seen base
    [] [0x50, 0x02]
    (fun t => (t.pc, flags t)) =
    some (0x0604, [false, false, false, false, false, false, false]) := by decide

/-- `BVC $0604` (BR14). -/
theorem test_bvc_br14 : seen { base with flagV := true }
    [] [0x50, 0x02]
    (fun t => (t.pc, flags t)) =
    some (0x0602, [false, true, false, false, false, false, false]) := by decide

/-- `BVS $0604` (BR15). -/
theorem test_bvs_br15 : seen base
    [] [0x70, 0x02]
    (fun t => (t.pc, flags t)) =
    some (0x0602, [false, false, false, false, false, false, false]) := by decide

/-- `BVS $0604` (BR16). -/
theorem test_bvs_br16 : seen { base with flagV := true }
    [] [0x70, 0x02]
    (fun t => (t.pc, flags t)) =
    some (0x0604, [false, true, false, false, false, false, false]) := by decide

/-- `JMP ($02FF)` (JP03). -/
theorem test_jmp_jp03 : seen base
    [(0x02FF, 0x34), (0x0200, 0x12), (0x0300, 0x56)] [0x6C, 0xFF, 0x02]
    (fun t => (t.pc, flags t)) =
    some (0x1234, [false, false, false, false, false, false, false]) := by decide

/-- `JMP $0600` (JP04). -/
theorem test_jmp_jp04 : seen base
    [] [0x4C, 0x00, 0x06]
    (fun t => (t.pc, flags t)) =
    some (0x0600, [false, false, false, false, false, false, false]) := by decide

/-- `JSR $1234` (JP07). -/
theorem test_jsr_jp07 : seen { base with pc := 0xFFFE }
    [] [0x20, 0x34, 0x12]
    (fun t => (t.sp, [t.read 0x01FE, t.read 0x01FF], t.pc, flags t)) =
    some (0xFD, [0x00, 0x00], 0x1234, [false, false, false, false, false, false, false]) := by decide

/-- `JSR $0610` (JP08). -/
theorem test_jsr_jp08 : seen { base with sp := 0x00 }
    [] [0x20, 0x10, 0x06]
    (fun t => (t.sp, [t.read 0x0100, t.read 0x01FF], t.pc, flags t)) =
    some (0xFE, [0x06, 0x02], 0x0610, [false, false, false, false, false, false, false]) := by decide

/-- `RTS` (JP10). -/
theorem test_rts_jp10 : seen { base with sp := 0xFD }
    [(0x01FE, 0xFF), (0x01FF, 0xFF)] [0x60]
    (fun t => (t.sp, t.pc, flags t)) =
    some (0xFF, 0x0000, [false, false, false, false, false, false, false]) := by decide

/-- `RTS` (JP11). -/
theorem test_rts_jp11 : seen { base with sp := 0xFF }
    [(0x0100, 0x33), (0x0101, 0x22)] [0x60]
    (fun t => (t.sp, t.pc, flags t)) =
    some (0x01, 0x2234, [false, false, false, false, false, false, false]) := by decide

/-- `CLC` (FL01). -/
theorem test_clc_fl01 : seen { base with flagN := true, flagC := true }
    [] [0x18]
    (fun t => (t.pc, flags t)) =
    some (0x0601, [true, false, false, false, false, false, false]) := by decide

/-- `CLC` (FL02). -/
theorem test_clc_fl02 : seen { base with flagZ := true }
    [] [0x18]
    (fun t => (t.pc, flags t)) =
    some (0x0601, [false, false, false, false, false, true, false]) := by decide

/-- `CLD` (FL03). -/
theorem test_cld_fl03 : seen { base with flagD := true, flagZ := true }
    [] [0xD8]
    (fun t => (t.pc, flags t)) =
    some (0x0601, [false, false, false, false, false, true, false]) := by decide

/-- `CLI` (FL04). -/
theorem test_cli_fl04 : seen { base with flagI := true, flagC := true }
    [] [0x58]
    (fun t => (t.pc, flags t)) =
    some (0x0601, [false, false, false, false, false, false, true]) := by decide

/-- `CLV` (FL10). -/
theorem test_clv_fl10 : seen { base with flagN := true, flagV := true, flagB := true, flagD := true, flagI := true, flagZ := true, flagC := true }
    [] [0xB8]
    (fun t => (t.pc, flags t)) =
    some (0x0601, [true, false, true, true, true, true, true]) := by decide

/-- `SEC` (FL06). -/
theorem test_sec_fl06 : seen { base with flagN := true }
    [] [0x38]
    (fun t => (t.pc, flags t)) =
    some (0x0601, [true, false, false, false, false, false, true]) := by decide

/-- `SED` (FL07). -/
theorem test_sed_fl07 : seen base
    [] [0xF8]
    (fun t => (t.pc, flags t)) =
    some (0x0601, [false, false, false, true, false, false, false]) := by decide

/-- `SEI` (FL08). -/
theorem test_sei_fl08 : seen base
    [] [0x78]
    (fun t => (t.pc, flags t)) =
    some (0x0601, [false, false, false, false, true, false, false]) := by decide

/-- `LDA ($FE,X)` (AM11). -/
theorem test_lda_am11 : seen { base with x := 0x01 }
    [(0x00FF, 0x34), (0x0000, 0x12), (0x1234, 0x55)] [0xA1, 0xFE]
    (fun t => (t.a, t.pc, flags t)) =
    some (0x55, 0x0602, [false, false, false, false, false, false, false]) := by decide

/-- `LDA ($FF),Y` (AM14). -/
theorem test_lda_am14 : seen { base with y := 0x01 }
    [(0x00FF, 0xFF), (0x0000, 0xFF)] [0xB1, 0xFF]
    (fun t => (t.a, t.pc, flags t)) =
    some (0xFF, 0x0602, [true, false, false, false, false, false, false]) := by decide

/-- `LDX $F0,Y` (AM05). -/
theorem test_ldx_am05 : seen { base with y := 0x20 }
    [(0x0010, 0x77)] [0xB6, 0xF0]
    (fun t => (t.x, t.pc, flags t)) =
    some (0x77, 0x0602, [false, false, false, false, false, false, false]) := by decide

/-- `LDX $0200,Y` (LS05). -/
theorem test_ldx_ls05 : seen { base with y := 0x05 }
    [(0x0205, 0x00)] [0xBE, 0x00, 0x02]
    (fun t => (t.pc, flags t)) =
    some (0x0603, [false, false, false, false, false, true, false]) := by decide

/-- `LDY $10` (LS06). -/
theorem test_ldy_ls06 : seen { base with y := 0x07 }
    [(0x0010, 0x00)] [0xA4, 0x10]
    (fun t => (t.y, t.pc, flags t)) =
    some (0x00, 0x0602, [false, false, false, false, false, true, false]) := by decide

/-- `LDY $0200,X` (LS07). -/
theorem test_ldy_ls07 : seen { base with x := 0xFF }
    [(0x02FF, 0x7F)] [0xBC, 0x00, 0x02]
    (fun t => (t.y, t.pc, flags t)) =
    some (0x7F, 0x0603, [false, false, false, false, false, false, false]) := by decide

/-- `STA $FFFF,X` (LS10). -/
theorem test_sta_ls10 : seen { base with a := 0x11, x := 0x02 }
    [] [0x9D, 0xFF, 0xFF]
    (fun t => ([t.read 0x0001], t.pc, flags t)) =
    some ([0x11], 0x0603, [false, false, false, false, false, false, false]) := by decide

/-- `STA ($20),Y` (LS11). -/
theorem test_sta_ls11 : seen { base with a := 0x77, y := 0x04 }
    [(0x0020, 0xFE), (0x0021, 0x02)] [0x91, 0x20]
    (fun t => ([t.read 0x0302], t.pc, flags t)) =
    some ([0x77], 0x0602, [false, false, false, false, false, false, false]) := by decide

/-- `STX $10,Y` (LS14). -/
theorem test_stx_ls14 : seen { base with x := 0x07, y := 0xF8 }
    [] [0x96, 0x10]
    (fun t => ([t.read 0x0008], t.pc, flags t)) =
    some ([0x07], 0x0602, [false, false, false, false, false, false, false]) := by decide

/-- `STX $0200` (LS15). -/
theorem test_stx_ls15 : seen { base with x := 0x80 }
    [] [0x8E, 0x00, 0x02]
    (fun t => ([t.read 0x0200], t.pc, flags t)) =
    some ([0x80], 0x0603, [false, false, false, false, false, false, false]) := by decide

/-- `STY $20` (LS16). -/
theorem test_sty_ls16 : seen { base with y := 0x33 }
    [] [0x84, 0x20]
    (fun t => ([t.read 0x0020], t.pc, flags t)) =
    some ([0x33], 0x0602, [false, false, false, false, false, false, false]) := by decide

/-- `STY $20,X` (LS17). -/
theorem test_sty_ls17 : seen { base with y := 0x33, x := 0x01 }
    [] [0x94, 0x20]
    (fun t => ([t.read 0x0021], t.pc, flags t)) =
    some ([0x33], 0x0602, [false, false, false, false, false, false, false]) := by decide

/-- `TAX` (LS18). -/
theorem test_tax_ls18 : seen { base with a := 0x80 }
    [] [0xAA]
    (fun t => (t.x, t.pc, flags t)) =
    some (0x80, 0x0601, [true, false, false, false, false, false, false]) := by decide

/-- `TAY` (LS19). -/
theorem test_tay_ls19 : seen { base with y := 0x05 }
    [] [0xA8]
    (fun t => (t.y, t.pc, flags t)) =
    some (0x00, 0x0601, [false, false, false, false, false, true, false]) := by decide

/-- `TXA` (LS20). -/
theorem test_txa_ls20 : seen { base with x := 0x7F, a := 0xFF, flagN := true }
    [] [0x8A]
    (fun t => (t.a, t.pc, flags t)) =
    some (0x7F, 0x0601, [false, false, false, false, false, false, false]) := by decide

/-- `TYA` (LS21). -/
theorem test_tya_ls21 : seen { base with y := 0xFF }
    [] [0x98]
    (fun t => (t.a, t.pc, flags t)) =
    some (0xFF, 0x0601, [true, false, false, false, false, false, false]) := by decide

/-- `TSX` (LS22). -/
theorem test_tsx_ls22 : seen { base with sp := 0xFD }
    [] [0xBA]
    (fun t => (t.x, t.pc, flags t)) =
    some (0xFD, 0x0601, [true, false, false, false, false, false, false]) := by decide

/-- `TSX` (LS23). -/
theorem test_tsx_ls23 : seen { base with sp := 0x00, x := 0x01 }
    [] [0xBA]
    (fun t => (t.x, t.pc, flags t)) =
    some (0x00, 0x0601, [false, false, false, false, false, true, false]) := by decide

/-- `TXS` (LS24). -/
theorem test_txs_ls24 : seen { base with x := 0xFF, flagZ := true }
    [] [0x9A]
    (fun t => (t.pc, flags t)) =
    some (0x0601, [false, false, false, false, false, true, false]) := by decide

/-- `TXS` (LS25). -/
theorem test_txs_ls25 : seen { base with x := 0x00, flagN := true }
    [] [0x9A]
    (fun t => (t.sp, t.pc, flags t)) =
    some (0x00, 0x0601, [true, false, false, false, false, false, false]) := by decide

/-- `INC $10` (ID01). -/
theorem test_inc_id01 : seen { base with flagC := true }
    [(0x0010, 0xFF)] [0xE6, 0x10]
    (fun t => ([t.read 0x0010], t.pc, flags t)) =
    some ([0x00], 0x0602, [false, false, false, false, false, true, true]) := by decide

/-- `INC $0200,X` (ID03). -/
theorem test_inc_id03 : seen { base with x := 0x01 }
    [(0x0201, 0x00)] [0xFE, 0x00, 0x02]
    (fun t => ([t.read 0x0201], t.pc, flags t)) =
    some ([0x01], 0x0603, [false, false, false, false, false, false, false]) := by decide

/-- `DEC $0200` (ID04). -/
theorem test_dec_id04 : seen base
    [(0x0200, 0x00)] [0xCE, 0x00, 0x02]
    (fun t => ([t.read 0x0200], t.pc, flags t)) =
    some ([0xFF], 0x0603, [true, false, false, false, false, false, false]) := by decide

/-- `DEC $10,X` (ID06). -/
theorem test_dec_id06 : seen { base with x := 0xF0, flagN := true }
    [(0x0000, 0x80)] [0xD6, 0x10]
    (fun t => ([t.read 0x0000], t.pc, flags t)) =
    some ([0x7F], 0x0602, [false, false, false, false, false, false, false]) := by decide

/-- `INX` (ID07). -/
theorem test_inx_id07 : seen { base with x := 0x7F }
    [] [0xE8]
    (fun t => (t.x, t.pc, flags t)) =
    some (0x80, 0x0601, [true, false, false, false, false, false, false]) := by decide

/-- `INX` (ID08). -/
theorem test_inx_id08 : seen { base with x := 0xFF }
    [] [0xE8]
    (fun t => (t.x, t.pc, flags t)) =
    some (0x00, 0x0601, [false, false, false, false, false, true, false]) := by decide

/-- `INY` (ID09). -/
theorem test_iny_id09 : seen base
    [] [0xC8]
    (fun t => (t.y, t.pc, flags t)) =
    some (0x01, 0x0601, [false, false, false, false, false, false, false]) := by decide

/-- `INY` (ID10). -/
theorem test_iny_id10 : seen { base with y := 0xFF }
    [] [0xC8]
    (fun t => (t.y, t.pc, flags t)) =
    some (0x00, 0x0601, [false, false, false, false, false, true, false]) := by decide

/-- `DEX` (ID11). -/
theorem test_dex_id11 : seen { base with x := 0x01 }
    [] [0xCA]
    (fun t => (t.x, t.pc, flags t)) =
    some (0x00, 0x0601, [false, false, false, false, false, true, false]) := by decide

/-- `DEX` (ID12). -/
theorem test_dex_id12 : seen base
    [] [0xCA]
    (fun t => (t.x, t.pc, flags t)) =
    some (0xFF, 0x0601, [true, false, false, false, false, false, false]) := by decide

/-- `DEY` (ID13). -/
theorem test_dey_id13 : seen { base with y := 0x80 }
    [] [0x88]
    (fun t => (t.y, t.pc, flags t)) =
    some (0x7F, 0x0601, [false, false, false, false, false, false, false]) := by decide

/-- `DEY` (ID14). -/
theorem test_dey_id14 : seen base
    [] [0x88]
    (fun t => (t.y, t.pc, flags t)) =
    some (0xFF, 0x0601, [true, false, false, false, false, false, false]) := by decide

/-- `PHA` (SK02). -/
theorem test_pha_sk02 : seen { base with a := 0x42, sp := 0x00 }
    [] [0x48]
    (fun t => (t.sp, [t.read 0x0100], t.pc, flags t)) =
    some (0xFF, [0x42], 0x0601, [false, false, false, false, false, false, false]) := by decide

/-- `PHP` (SK03). -/
theorem test_php_sk03 : seen { base with flagN := true, flagI := true, flagC := true }
    [] [0x08]
    (fun t => (t.sp, [t.read 0x01FF], t.pc, flags t)) =
    some (0xFE, [0xB5], 0x0601, [true, false, false, false, true, false, true]) := by decide

/-- `PHP` (SK05). -/
theorem test_php_sk05 : seen { base with flagN := true, flagV := true, flagB := true, flagD := true, flagI := true, flagZ := true, flagC := true }
    [] [0x08]
    (fun t => (t.sp, [t.read 0x01FF], t.pc, flags t)) =
    some (0xFE, [0xFF], 0x0601, [true, true, true, true, true, true, true]) := by decide

/-- `PLA` (SK06). -/
theorem test_pla_sk06 : seen { base with sp := 0xFE, a := 0x55 }
    [(0x01FF, 0x00)] [0x68]
    (fun t => (t.a, t.sp, t.pc, flags t)) =
    some (0x00, 0xFF, 0x0601, [false, false, false, false, false, true, false]) := by decide

/-- `PLA` (SK07). -/
theorem test_pla_sk07 : seen { base with sp := 0xFF }
    [(0x0100, 0x80)] [0x68]
    (fun t => (t.a, t.sp, t.pc, flags t)) =
    some (0x80, 0x00, 0x0601, [true, false, false, false, false, false, false]) := by decide

/-- `PLP` (SK08). -/
theorem test_plp_sk08 : seen { base with sp := 0xFE }
    [(0x01FF, 0xC3)] [0x28]
    (fun t => (t.sp, t.pc, flags t)) =
    some (0xFF, 0x0601, [true, true, false, false, false, true, true]) := by decide

/-- `PLP` (SK09). -/
theorem test_plp_sk09 : seen { base with sp := 0xFE, flagB := true, flagN := true, flagC := true }
    [(0x01FF, 0x00)] [0x28]
    (fun t => (t.sp, t.pc, flags t)) =
    some (0xFF, 0x0601, [false, false, true, false, false, false, false]) := by decide

/-- `BRK` (SK12). -/
theorem test_brk_sk12 : seen { base with pc := 0xFFFF, flagI := true }
    [(0xFFFE, 0x34)] [0x00]
    (fun t => (t.sp, [t.read 0x01FD, t.read 0x01FE, t.read 0x01FF], t.pc, flags t)) =
    some (0xFC, [0x34, 0x01, 0x00], 0x0034, [false, false, true, false, true, false, false]) := by decide

/-- `BRK` (SK13). -/
theorem test_brk_sk13 : seen { base with sp := 0x01 }
    [(0xFFFE, 0x00), (0xFFFF, 0x80)] [0x00]
    (fun t => (t.sp, [t.read 0x0100, t.read 0x0101, t.read 0x01FF], t.pc, flags t)) =
    some (0xFE, [0x02, 0x06, 0x30], 0x8000, [false, false, true, false, true, false, false]) := by decide

/-- `RTI` (SK14). -/
theorem test_rti_sk14 : seen { base with sp := 0xFC, flagI := true, flagB := true }
    [(0x01FD, 0x33), (0x01FE, 0x02), (0x01FF, 0x06)] [0x40]
    (fun t => (t.sp, t.pc, flags t)) =
    some (0xFF, 0x0602, [false, false, true, false, false, true, true]) := by decide

/-- `RTI` (SK15). -/
theorem test_rti_sk15 : seen { base with sp := 0xFF }
    [(0x0100, 0xC0), (0x0101, 0xFF), (0x0102, 0xFF)] [0x40]
    (fun t => (t.sp, t.pc, flags t)) =
    some (0x02, 0xFFFF, [true, true, false, false, false, false, false]) := by decide

/-- `NOP` (SK16). -/
theorem test_nop_sk16 : seen { base with pc := 0xFFFF }
    [] [0xEA]
    (fun t => (t.pc, flags t)) =
    some (0x0000, [false, false, false, false, false, false, false]) := by decide

/-- `NOP` (SK17). -/
theorem test_nop_sk17 : seen { base with flagN := true, flagV := true, flagB := true, flagD := true, flagI := true, flagZ := true, flagC := true, a := 0x12, x := 0x34, y := 0x56, sp := 0x78 }
    [] [0xEA]
    (fun t => (t.pc, flags t)) =
    some (0x0601, [true, true, true, true, true, true, true]) := by decide

/-- EN03: there is no STA immediate. -/
theorem test_unknown_en03 :
    step (placed base [] [0x89]) = .fault (.unknownOpcode 0x0600 0x89) := rfl

/-- EN04: PC stays FFFF. -/
theorem test_unknown_en04 :
    step (placed { base with pc := 0xFFFF } [] [0x80]) = .fault (.unknownOpcode 0xFFFF 0x80) := rfl

/-- The word 0xEA placed by `withFetchWord` runs as NOP from reset (R206). -/
theorem test_fetch_word :
    step (State.reset.withFetchWord 8 0xEA) =
      .next { State.reset.withFetchWord 8 0xEA with pc := 1 } := rfl

/-- A reset with nothing placed fetches the byte 00, which is BRK (log 4). -/
theorem test_bare_reset : State.reset.fetch = some .brk := by decide

/-! ## Witnesses: states and operands that meet the hypotheses of each statement -/

/-- EncodeOfDecodeIsTheBytes, ModeFixesTheLength, at each length. -/
theorem witness_decode_ok :
    decode [0xEA] = .ok (.nop, []) ∧ decode [0xA9, 0xFF] = .ok (.ldaImm 0xFF, []) ∧
      decode [0x4C, 0x00, 0xFF, 0x02] = .ok (.jmpAbs 0xFF00, [0x02]) := ⟨rfl, rfl, rfl⟩

/-- ModeFixesTheLength: one first byte before two different tails, a byte with a row, and one without. -/
theorem witness_length_by_opcode :
    decode [0xA9, 0x00] = .ok (.ldaImm 0x00, []) ∧
      decode [0xA9, 0xFF, 0x60] = .ok (.ldaImm 0xFF, [0x60]) ∧
      (lookup 0xA9).isSome = true ∧ (lookup 0x02).isNone = true := ⟨rfl, rfl, rfl, rfl⟩

/-- DecodeRefusesExactlyUnknownOpcodes, both sides, at the first and the last byte of the list. -/
theorem witness_decode_refused :
    (0x02 : Byte) ∈ Forms.unknownOpcodes ∧ (0xFF : Byte) ∈ Forms.unknownOpcodes ∧
      (0x00 : Byte) ∉ Forms.unknownOpcodes ∧ decode [0x02] = .error (.unknownOpcode 0x02) := ⟨by decide, by decide, by decide, rfl⟩

/-- FetchReadsTheBytesAtPc, ModesResolveAsStated, with the instruction's bytes at FFFE, FFFF and 0000 (AM07). -/
theorem witness_fetch :
    (placed { base with pc := 0xFFFE } [] [0xAD, 0x34, 0x12]).fetch = some (.ldaAbs 0x1234) := by decide

/-- StepRunsTheDecodedInstruction. -/
theorem witness_step_runs :
    let s := placed base [] [0xA9, 0x42]
    decode [s.read s.pc, s.read (s.pc + 1), s.read (s.pc + 2)] = .ok (.ldaImm 0x42, [0x00]) ∧
      (Instr.ldaImm 0x42).wellFormed = true := ⟨rfl, by decide⟩

/-- StepHasTheOutcomesOfTheEngine, StepFaultsExactlyOnUnknownOpcodes: a known and an unknown byte. -/
theorem witness_known_opcode :
    KnownOpcode base ∧ ¬ KnownOpcode (placed base [] [0xFF]) ∧
      (placed base [] [0xFF]).read 0x0600 ∈ Forms.unknownOpcodes := ⟨rfl, by unfold KnownOpcode; decide, by decide⟩

/-- StepDependsOnRegistersFlagsAndBytes: two listings of the same bytes, where a step runs. -/
theorem witness_same_bytes :
    let s : State := { base with mem := [] }
    let s' : State := { base with mem := [(0x0010, 0x00)] }
    s.snapshot = s'.snapshot ∧ (∀ a, s.read a = s'.read a) ∧ s ≠ s' ∧ ∃ t, step s = .next t := by
  refine ⟨rfl, fun a => ?_, by decide, _, rfl⟩
  by_cases h : 0x0010 = a.toNat <;> simp [State.read, Memory.read, Memory.unlisted, h]

/-- StepDependsOnRegistersFlagsAndBytes: the same where a step faults. -/
theorem witness_same_bytes_fault :
    let s : State := { base with mem := [(0x0600, 0x02)] }
    let s' : State := { base with mem := [(0x0600, 0x02), (0x0600, 0x07)] }
    s.snapshot = s'.snapshot ∧ (∀ a, s.read a = s'.read a) ∧
      step s = .fault (.unknownOpcode 0x0600 0x02) := by
  refine ⟨rfl, fun a => ?_, rfl⟩
  by_cases h : 0x0600 = a.toNat <;> simp [State.read, Memory.read, Memory.unlisted, h]

/-- AdvanceFollowsTheSignal. -/
theorem witness_carry_clear :
    base.flagC = false := rfl

/-- OtherInstructionsAdvanceByTheirLength, with PC wrapping (EN05). -/
theorem witness_advances :
    (∃ t, exec .nop { base with pc := 0xFFFF } = .next t ∧ t.pc = 0x0000) ∧
      Instr.nop.mnemonic ∉ [Mnemonic.bcc, .bcs, .beq, .bne, .bmi, .bpl, .bvc, .bvs, .jmp, .jsr, .rts,
        .rti, .brk] := ⟨⟨_, rfl, by decide⟩, by decide⟩

/-- StatesAreEqualWhenAllComponentsAre, StepKeepsTheCanonicalMemory, HostLoadStoresTheBytes: bytes listed at
both ends of the address space; and a listing that is not canonical. -/
theorem witness_inv :
    Inv { base with mem := [(0x0000, 0x01), (0xFFFF, 0xFF)] } ∧
      ¬ Inv { base with mem := [(0x0000, 0x00)] } ∧ ¬ Inv { base with mem := [(0x10000, 0x01)] } := ⟨rfl, by unfold Inv; decide, by unfold Inv; decide⟩

/-- StepKeepsTheCanonicalMemory: a step that stores. -/
theorem witness_step_stores :
    ∃ t, step (placed { base with a := 0x42 } [] [0x48]) = .next t ∧ Inv (placed base [] [0x48]) ∧
      t.read 0x01FF = 0x42 := ⟨_, rfl, rfl, by decide⟩

/-- HostLoadStoresTheBytes: a load that wraps past FFFF. -/
theorem witness_host_load :
    ([0x12, 0x34] : List Byte).length ≤ 65536 ∧ ([0x12, 0x34] : List Byte)[1]? = some 0x34 ∧
      ([0x12, 0x34] : List Byte).length ≤ ((0x0001 : Word) - 0xFFFF).toNat := ⟨by decide, rfl, by decide⟩

/-- PlacedInstructionRunsNext. -/
theorem witness_placed_word :
    decodeTableWord 16 0x10C6 = some (.decZp 0x10) := by decide

/-- PageReadStaysInThePage: the clauses for a low byte below FF and for FF, and the mode's instruction. -/
theorem witness_page_read :
    lowByte 0x02FE ≠ 0xFF ∧ lowByte 0x02FF = 0xFF ∧ (Instr.jmpInd 0x02FF).mode = .ind := ⟨by decide, by decide, rfl⟩

/-- PageReadStaysInThePage: a (zp),Y base below FF, and a mode in none of the three that read a pointer. -/
theorem witness_page_read_others :
    (0xFE : Byte) ≠ 0xFF ∧ (MemMode.absx 0xFFFF).mode ∉ [Mode.indx, .indy, .ind] := by decide

/-- HandlersGetTheResolvedOperand: a handler given the value, both fields, the address, and nothing. -/
theorem witness_handler_for :
    handlerFor .lda ⟨some 0x80, none⟩ base = some (handleLda 0x80 base) ∧
      handlerFor .asl ⟨some 0x81, some .acc⟩ base = some (handleAsl .acc 0x81 base) ∧
      handlerFor .jmp ⟨none, some (.mem 0x1234)⟩ base = some (handleJmp 0x1234 base) ∧
      handlerFor .nop ⟨none, none⟩ base = some (handleNop base) := ⟨rfl, rfl, rfl, rfl⟩

/-- ModesResolveAsStated: an instruction of each of the three modes with a list. -/
theorem witness_mode_users :
    (Instr.stxZpy 0x10).mode = .zpy ∧ (Instr.jmpInd 0x1234).mode = .ind ∧ Instr.rorAcc.mode = .acc := ⟨rfl, rfl, rfl⟩

/-- HandlersGetTheResolvedOperand. -/
theorem witness_value_operands :
    (Source.imm 0xFF).operand.mode ≠ .ind ∧ (Source.mem (.indy 0xFF)).operand.mode ≠ .ind ∧
      Place.acc.operand.mode ≠ .ind ∧ (Place.mem (.absx 0xFFFF)).operand.mode ≠ .ind := by decide

/-- The statements over encoded forms: no list of forms is empty, and it has as many forms as R57 gives modes. -/
theorem witness_forms :
    ((Forms.adc 0xFF 0xFF).length, (Forms.sbc 0xFF 0xFF).length, (Forms.cmp 0xFF 0xFF).length, (Forms.cpx 0xFF 0xFF).length, (Forms.cpy 0xFF 0xFF).length,
      (Forms.and 0xFF 0xFF).length, (Forms.ora 0xFF 0xFF).length, (Forms.eor 0xFF 0xFF).length, (Forms.bit 0xFF 0xFF).length) =
      (8, 8, 8, 3, 3, 8, 8, 8, 2) := rfl

/-- The same for loads, shifts, increments and stores. -/
theorem witness_forms_more :
    ((Forms.lda 0xFF 0xFF).length, (Forms.ldx 0xFF 0xFF).length, (Forms.ldy 0xFF 0xFF).length, (Forms.asl 0xFF 0xFF).length, (Forms.lsr 0xFF 0xFF).length,
      (Forms.rol 0xFF 0xFF).length, (Forms.ror 0xFF 0xFF).length, (Forms.inc 0xFF 0xFF).length, (Forms.dec 0xFF 0xFF).length, (Forms.sta 0xFF 0xFF).length, (Forms.stx 0xFF 0xFF).length, (Forms.sty 0xFF 0xFF).length) =
      (8, 5, 5, 5, 5, 5, 5, 4, 4, 7, 3, 3) := rfl

/-- AdcAddsWithCarry: a form is a member, with an operand whose sum carries. -/
theorem witness_adc_form :
    (⟨0x69, .adcImm 0xFF, .imm 0xFF, 2⟩ : EncodedForm Source) ∈ Forms.adc 0xFF 0x00 ∧
      256 ≤ (0xFF : Byte).toNat + (sourceVal { base with a := 0xFF } (.imm 0xFF)).toNat := ⟨.head _, by decide⟩

/-- BranchesTestOneFlag: a branch taken and the same branch not taken. -/
theorem witness_branch_sides :
    ({ base with flagC := true } : State).flagC = true ∧ ¬ base.flagC = true := ⟨rfl, by decide⟩

/-- NineRotationsRestore. -/
theorem witness_rotations :
    Instr.rolAcc ∈ [Instr.rolAcc, .rorAcc] ∧ Instr.rorAcc ∈ [Instr.rolAcc, .rorAcc] := by decide

/-- JsrPushesItsLastByteAddress, BrkTakesTheTrap: an address that is no pushed byte, with SP wrapping. -/
theorem witness_not_pushed :
    (0x0101 : Word) ≠ stackAddr 0x00 ∧ (0x0101 : Word) ≠ stackAddr (0x00 - 1) ∧
      (0x0101 : Word) ≠ stackAddr (0x00 - 2) := by decide

/-- JsrThenRtsComesBack, BrkThenRtiComesBack: the addresses beside page 1. -/
theorem witness_outside_page_one :
    highByte 0x00FF ≠ 0x01 ∧ highByte 0x0200 ≠ 0x01 ∧ highByte 0x0100 = 0x01 := by decide

/-- NopOnlyAdvances. -/
theorem witness_nop_byte :
    decodeBytes 0xEA 0x00 0x00 = some .nop ∧ decodeBytes 0x1A 0x00 0x00 ≠ some .nop := by decide

/-- FlagsChangeOnlyByTheirInstructions: STA is in none of the five lists. -/
theorem witness_flag_frame :
    (∃ t, exec (.staZp 0x10) base = .next t) ∧
      Mnemonic.sta ∉ [Mnemonic.adc, .sbc, .and, .ora, .eor, .asl, .lsr, .rol, .ror, .cmp, .cpx, .cpy,
        .lda, .ldx, .ldy, .tax, .tay, .txa, .tya, .tsx, .inc, .dec, .inx, .iny, .dex, .dey, .pla,
        .bit, .plp, .rti, .clv, .cld, .sed, .cli, .sei, .brk, .clc, .sec] := ⟨⟨_, rfl⟩, by decide⟩

/-- BreakFlagIsSetByBrkAndReadByNone. -/
theorem witness_break_set :
    ∃ t, exec .brk base = .next t ∧ t.flagB = true := ⟨_, rfl, rfl⟩

/-- DecimalAndInterruptFlagsAreInert, with D set (AR10). -/
theorem witness_decimal :
    (∃ t, exec (.adcImm 0x09) { base with a := 0x09, flagD := true } = .next t ∧ t.a = 0x12) ∧
      (Instr.adcImm 0x09).mnemonic ∉ [Mnemonic.php, .brk] := ⟨⟨_, rfl, by decide⟩, by decide⟩

/-- RegistersChangeOnlyByTheirInstructions: ASL on memory is in no list and not in accumulator mode. -/
theorem witness_register_frame :
    (∃ t, exec (.aslZp 0x10) base = .next t) ∧ (Instr.aslZp 0x10).mode ≠ .acc ∧
      Mnemonic.asl ∉ [Mnemonic.adc, .sbc, .and, .ora, .eor, .lda, .txa, .tya, .pla, .ldx, .tax, .tsx,
        .inx, .dex, .ldy, .tay, .iny, .dey, .pha, .php, .plp, .jsr, .rts, .brk, .rti, .txs] := ⟨⟨_, rfl⟩, by decide, by decide⟩

/-- MemoryChangesOnlyWhereWritten: a store at an effective address. -/
theorem witness_store_changes :
    ∃ t, exec (.staAbs 0xFFFF) { base with a := 0x42 } = .next t ∧ t.read 0xFFFF ≠ base.read 0xFFFF := ⟨_, rfl, by decide⟩

/-- MemoryChangesOnlyWhereWritten: a push, with SP at 00. -/
theorem witness_push_changes :
    ∃ t, exec .pha { base with a := 0x42, sp := 0x00 } = .next t ∧ t.read 0x0100 ≠ base.read 0x0100 := ⟨_, rfl, by decide⟩

end Sys2Proof.Tests
end

section
/-! Proofs of the statements about the state: which states are equal (R28), and the state after reset. -/

namespace Sys2Proof.Machine

/-! ## Canonical memories with equal bytes are equal -/

@[simp] theorem Memory.read_cons_same (k : Nat) (v : Byte) (rest : Memory) :
    Memory.read ((k, v) :: rest) k = v :=
  if_pos rfl

theorem Memory.read_cons_ne {k a : Nat} (v : Byte) (rest : Memory) (hne : k ≠ a) :
    Memory.read ((k, v) :: rest) a = rest.read a :=
  if_neg hne

/-- The first entry of a canonical memory is its lowest address that differs from an unlisted one, so a
memory that reads alike starts no higher. -/
theorem Memory.head_le_of_read_eq {lo lo' j k : Nat} {v w : Byte} {ms ns : Memory}
    (hm : Memory.wfFrom lo ((k, v) :: ms) = true) (hn : Memory.wfFrom lo' ((j, w) :: ns) = true)
    (hread : Memory.read ((k, v) :: ms) k = Memory.read ((j, w) :: ns) k) : j ≤ k := by
  obtain ⟨-, -, hv, -⟩ := Memory.wfFrom_cons.mp hm
  obtain ⟨-, hn'⟩ := Memory.wfFrom_cons.mp hn
  refine Nat.le_of_not_lt fun hlt => hv ?_
  calc v = Memory.read ((k, v) :: ms) k := (Memory.read_cons_same k v ms).symm
    _ = Memory.read ((j, w) :: ns) k := hread
    _ = Memory.unlisted := Memory.read_below (Memory.wfFrom_cons.mpr ⟨le_rfl, hn'⟩) hlt

/-- Behind an equal first entry canonical memories still read alike: the rest lists nothing up to it. -/
theorem Memory.tail_read_eq {k : Nat} {v : Byte} {ms ns : Memory}
    (hms : Memory.wfFrom (k + 1) ms = true) (hns : Memory.wfFrom (k + 1) ns = true)
    (hread : ∀ a, Memory.read ((k, v) :: ms) a = Memory.read ((k, v) :: ns) a) (a : Nat) :
    Memory.read ms a = Memory.read ns a := by
  by_cases ha : k = a
  · have hlt : a < k + 1 := by omega
    rw [Memory.read_below hms hlt, Memory.read_below hns hlt]
  · rw [← Memory.read_cons_ne v ms ha, hread a, Memory.read_cons_ne v ns ha]

/-- A canonical memory that reads as unlisted everywhere lists nothing. -/
theorem Memory.eq_nil_of_read_eq {lo : Nat} {m : Memory} (hm : Memory.wfFrom lo m = true)
    (hread : ∀ a, m.read a = Memory.unlisted) : m = [] := by
  cases m with
  | nil => rfl
  | cons c ms =>
    obtain ⟨k, v⟩ := c
    obtain ⟨-, -, hv, -⟩ := Memory.wfFrom_cons.mp hm
    exact absurd ((Memory.read_cons_same k v ms).symm.trans (hread k)) hv

/-- Two canonical memories that read alike at every address have the same first entry, and then the same
rest. -/
theorem Memory.eq_of_read_eq {lo lo' : Nat} {m n : Memory} (hm : Memory.wfFrom lo m = true)
    (hn : Memory.wfFrom lo' n = true) (hread : ∀ a, m.read a = n.read a) : m = n := by
  induction m generalizing lo lo' n with
  | nil => exact (Memory.eq_nil_of_read_eq hn fun a => (hread a).symm).symm
  | cons c ms ih =>
    cases n with
    | nil => exact Memory.eq_nil_of_read_eq hm hread
    | cons d ns =>
      obtain ⟨k, v⟩ := c
      obtain ⟨j, w⟩ := d
      obtain rfl : k = j := le_antisymm (Memory.head_le_of_read_eq hn hm (hread j).symm)
        (Memory.head_le_of_read_eq hm hn (hread k))
      obtain rfl : v = w := by simpa using hread k
      obtain ⟨-, -, -, hms⟩ := Memory.wfFrom_cons.mp hm
      obtain ⟨-, -, -, hns⟩ := Memory.wfFrom_cons.mp hn
      rw [ih hms hns (Memory.tail_read_eq hms hns hread)]

/-! ## The components of a state -/

/-- A state is its twelve registers and flags and its memory, and nothing else (R26). -/
theorem State.eq_iff_snapshot_mem {s t : State} :
    s = t ↔ s.snapshot = t.snapshot ∧ s.mem = t.mem := by
  cases s
  cases t
  simp [State.snapshot, and_assoc]

/-- The 65536 bytes determine a canonical listing: past the last address both list nothing. -/
theorem State.mem_eq_of_read_eq {s t : State} (hs : Inv s) (ht : Inv t)
    (hread : ∀ a, s.read a = t.read a) : s.mem = t.mem := by
  refine Memory.eq_of_read_eq hs ht fun a => ?_
  by_cases ha : a < Config.memSize
  · have hword : (BitVec.ofNat 16 a).toNat = a := Nat.mod_eq_of_lt ha
    simpa only [State.read, hword] using hread (BitVec.ofNat 16 a)
  · have hout : Config.memSize ≤ a := Nat.le_of_not_lt ha
    rw [Memory.read_outside hs hout, Memory.read_outside ht hout]

/-! ## The state after reset -/

theorem State.reset_mem : State.reset.mem = [] := rfl

/-- A memory that lists nothing has the canonical form. -/
theorem Memory.wf_nil : Memory.wf [] = true := rfl

/-- Reset lists no byte, so every byte reads as an unlisted one. -/
theorem State.read_reset (a : Word) : State.reset.read a = Memory.unlisted := rfl

/-! ## The statements -/

/-- Settles O15: the snapshot fixes the registers and flags, and the bytes fix the canonical listing. -/
theorem statesAreEqualWhenAllComponentsAre : Obligations.StatesAreEqualWhenAllComponentsAre := by
  intro s t hs ht
  constructor
  · rintro rfl
    exact ⟨rfl, fun _ => rfl⟩
  · rintro ⟨hsnap, hread⟩
    exact State.eq_iff_snapshot_mem.mpr ⟨hsnap, State.mem_eq_of_read_eq hs ht hread⟩

/-- Settles O17: the memory of the reset state lists nothing. -/
theorem resetHasCanonicalMemory : Obligations.ResetHasCanonicalMemory := by
  unfold Obligations.ResetHasCanonicalMemory Inv
  rw [State.reset_mem]
  exact Memory.wf_nil

/-- Settles O60: the launch values of Config are 0 and false, and an unlisted byte reads 0. -/
theorem resetIsAllZeroByChoice : Obligations.ResetIsAllZeroByChoice := by
  constructor
  · rfl
  · intro a
    rw [State.read_reset a, Memory.unlisted]

end Sys2Proof.Machine
end

section
/-! Proofs of the statements about memory: what a write and an instruction change of it (R31, R32, R39), that
every step keeps its canonical form, the read inside one page (R36), and the fetch of a placed instruction
(R45, R252). -/

namespace Sys2Proof.Machine

/-! ## Reads after a write -/

/-- A write changes one byte (R31, R32). -/
theorem State.read_write (s : State) (a b : Word) (v : Byte) :
    (s.write a v).read b = if b = a then v else s.read b := by
  split
  · next hb => rw [hb, State.read_write_same]
  · next hb => exact State.read_write_ne s v hb

/-! ## What an instruction does to memory -/

/-- The mnemonics whose instructions store at the effective address of a memory operand (R39). -/
def storeMnemonics : List Mnemonic := [.sta, .stx, .sty, .asl, .lsr, .rol, .ror, .inc, .dec]

/-- The mnemonics whose instructions push (R39, R14). -/
def pushMnemonics : List Mnemonic := [.pha, .php, .jsr, .brk]

/-- Everything the instruction `i`, run from `s`, can have done to the memory of `t`: kept it, stored one byte
at the address of its operand, or pushed. -/
inductive MemEffect (i : Instr) (s t : State) : Prop where
  | kept (hmem : t.mem = s.mem)
  | stored (m : MemMode) (v : Byte) (op : i.operand = .mem m) (mn : i.mnemonic ∈ storeMnemonics)
    (hmem : t.mem = (s.write (effectiveAddress s m) v).mem)
  | pushed (v : Byte) (mn : i.mnemonic ∈ pushMnemonics) (hmem : t.mem = (s.push v).mem)
  | pushedWord (w : Word) (mn : i.mnemonic ∈ pushMnemonics) (hmem : t.mem = (s.pushWord w).mem)
  | trapped (mn : i.mnemonic ∈ pushMnemonics) (hmem : t.mem = s.trapEntry.mem)

/-- A write-back to a place of `s` keeps the memory when the place is the accumulator, and stores one byte
otherwise. -/
theorem MemEffect.of_writeBack {i : Instr} {s u : State} {o : Place} (v : Byte)
    (op : i.operand = o.operand) (mn : i.mnemonic ∈ storeMnemonics) (hu : u.mem = s.mem) :
    MemEffect i s (u.writeBack (placeTarget s o) v) := by
  cases o with
  | acc => exact .kept hu
  | mem m => exact .stored m v op mn (by simp [placeTarget, hu])

/-- A branch writes no memory. -/
@[simp] theorem branch_mem (c : Bool) (d : Byte) (s : State) : (branch c d s).state.mem = s.mem := by
  obtain ⟨w, hw⟩ := branch_state c d s
  rw [hw, State.setPc_mem]

/-- What each handler does to memory. -/
theorem Handled.memEffect {i : Instr} {h : State → HandlerResult} (hh : Handled i h) (s : State) :
    MemEffect i s (h s).state := by
  cases hh with
  | sta m op mn | stx m op mn | sty m op mn =>
    exact .stored m _ op (by rw [mn]; decide) rfl
  | asl o op mn | lsr o op mn | rol o op mn | ror o op mn | inc o op mn | dec o op mn =>
    exact .of_writeBack _ op (by rw [mn]; decide) rfl
  | pha op mn | php op mn => exact .pushed _ (by rw [mn]; decide) rfl
  | jsr m op mn => exact .pushedWord _ (by rw [mn]; decide) rfl
  | brk op mn => exact .trapped (by rw [mn]; decide) rfl
  | bcc | bcs | beq | bne | bmi | bpl | bvc | bvs => exact .kept (branch_mem _ _ s)
  | _ => exact .kept rfl

/-- What an instruction that completed has done to memory: Advance writes none. -/
theorem exec_memEffect {i : Instr} {s t : State} (he : exec i s = .next t) : MemEffect i s t := by
  obtain ⟨h, hh, hadv⟩ := exec_eq_next he
  obtain ⟨w, rfl⟩ := HandlerResult.state_of_advance hadv
  cases hh.memEffect s with
  | kept hmem => exact .kept hmem
  | stored m v op mn hmem => exact .stored m v op mn hmem
  | pushed v mn hmem => exact .pushed v mn hmem
  | pushedWord v mn hmem => exact .pushedWord v mn hmem
  | trapped mn hmem => exact .trapped mn hmem

/-- Whatever an instruction does to memory keeps the canonical form. -/
theorem MemEffect.inv {i : Instr} {s t : State} (heff : MemEffect i s t) (hs : Inv s) : Inv t := by
  unfold Inv at *
  cases heff with
  | kept hmem => rwa [hmem]
  | stored m v op mn hmem => exact hmem ▸ State.write_wf _ v hs
  | pushed v mn hmem => exact hmem ▸ State.push_wf v hs
  | pushedWord w mn hmem => exact hmem ▸ State.pushWord_wf w hs
  | trapped mn hmem => exact hmem ▸ State.trapEntry_wf hs

/-- A push leaves every byte outside the stack page. -/
theorem State.read_push_outside (s : State) (v : Byte) {b : Word} (hb : highByte b ≠ 0x01) :
    (s.push v).read b = s.read b := by
  rw [State.read_push, if_neg (ne_stackAddr hb _)]

/-- A 16-bit push leaves every byte outside the stack page. -/
theorem State.read_pushWord_outside (s : State) (w : Word) {b : Word} (hb : highByte b ≠ 0x01) :
    (s.pushWord w).read b = s.read b := by
  rw [State.pushWord, State.read_push_outside _ _ hb, State.read_push_outside _ _ hb]

/-- The software trap leaves every byte outside the stack page. -/
theorem State.read_trapEntry_outside (s : State) {b : Word} (hb : highByte b ≠ 0x01) :
    s.trapEntry.read b = s.read b := by
  rw [State.read_congr (State.trapEntry_mem s), State.read_push_outside _ _ hb,
    State.read_pushWord_outside _ _ hb]

/-- A byte that an instruction changed is the one its operand addresses, or lies in the stack page. -/
theorem MemEffect.changed {i : Instr} {s t : State} {b : Word} (heff : MemEffect i s t)
    (hne : t.read b ≠ s.read b) :
    (i.mnemonic ∈ storeMnemonics ∧ ∃ m, i.operand = .mem m ∧ effectiveAddress s m = b) ∨
      (i.mnemonic ∈ pushMnemonics ∧ highByte b = 0x01) := by
  cases heff with
  | kept hmem => exact absurd (State.read_congr hmem b) hne
  | stored m v op mn hmem =>
    refine .inl ⟨mn, m, op, by_contra fun hb => hne ?_⟩
    exact (State.read_congr hmem b).trans (State.read_write_ne s v (Ne.symm hb))
  | pushed v mn hmem =>
    refine .inr ⟨mn, by_contra fun hb => hne ?_⟩
    exact (State.read_congr hmem b).trans (State.read_push_outside s v hb)
  | pushedWord w mn hmem =>
    refine .inr ⟨mn, by_contra fun hb => hne ?_⟩
    exact (State.read_congr hmem b).trans (State.read_pushWord_outside s w hb)
  | trapped mn hmem =>
    refine .inr ⟨mn, by_contra fun hb => hne ?_⟩
    exact (State.read_congr hmem b).trans (State.read_trapEntry_outside s hb)

/-! ## The read inside one page (R36) -/

theorem toNat_wordOf (hi lo : Byte) : (wordOf hi lo).toNat = hi.toNat * 256 + lo.toNat := by
  rw [wordOf, BitVec.toNat_append, ← Nat.shiftLeft_add_eq_or_of_lt lo.isLt, Nat.shiftLeft_eq]

/-- The page of one word and the offset of another, joined. -/
theorem and_page_or_and_offset (w v : Word) :
    w &&& 0xFF00 ||| v &&& 0x00FF = wordOf (highByte w) (lowByte v) := by
  apply BitVec.eq_of_getLsbD_eq
  intro k hk
  interval_cases k <;> simp [highByte, lowByte, -BitVec.getLsbD_eq_getElem]

theorem lowByte_add_one (w : Word) : lowByte (w + 1) = lowByte w + 1 := by
  apply BitVec.eq_of_toNat_eq
  simp [lowByte]

/-- Within a page the next address only moves the low byte. -/
theorem wordOf_add_one {lo : Byte} (hi : Byte) (hlo : lo ≠ 0xFF) :
    wordOf hi (lo + 1) = wordOf hi lo + 1 := by
  apply BitVec.eq_of_toNat_eq
  have hlo' : lo.toNat ≠ 255 := fun e => hlo (BitVec.eq_of_toNat_eq e)
  simp only [toNat_wordOf, BitVec.toNat_add]
  bv_omega

/-- The page read takes its high byte at the next offset of the same page. -/
theorem State.readPage16_eq (s : State) (a : Word) :
    s.readPage16 a = wordOf (s.read (wordOf (highByte a) (lowByte a + 1))) (s.read a) := by
  rw [State.readPage16, and_page_or_and_offset, lowByte_add_one]

/-- Inside a page the page read is the full read (R34, R36). -/
theorem State.readPage16_of_ne (s : State) {a : Word} (ha : lowByte a ≠ 0xFF) :
    s.readPage16 a = s.read16 a := by
  rw [State.readPage16_eq, wordOf_add_one _ ha, wordOf_highByte_lowByte, State.read16]

/-- At the end of a page the page read goes on at the page's start (R36). -/
theorem State.readPage16_of_eq (s : State) {a : Word} (ha : lowByte a = 0xFF) :
    s.readPage16 a = wordOf (s.read (wordOf (highByte a) 0)) (s.read a) := by
  rw [State.readPage16_eq, ha]
  rfl

/-- JMP alone has the indirect mode (R57). -/
theorem mnemonic_of_mode_ind {i : Instr} (hi : i.mode = .ind) : i.mnemonic = .jmp := by
  cases i with
  | jmpInd w => rfl
  | _ => cases hi

/-- A mode without a pointer takes its address from the operand and the registers alone (R73 to R78). -/
theorem effectiveAddress_setMem {m : MemMode} (s : State) (other : Memory)
    (hm : m.mode ∉ [Mode.indx, .indy, .ind]) :
    effectiveAddress { s with mem := other } m = effectiveAddress s m := by
  cases m with
  | indx | indy | ind => exact absurd hm (by simp [MemMode.mode])
  | _ => rfl

/-! ## The fetch of a placed instruction (R45, R252) -/

/-- The fetch reads the three bytes that the host placed at PC. -/
theorem State.fetch_withFetchWord (s : State) (nbits w : Nat) :
    (s.withFetchWord nbits w).fetch = decodeTableWord nbits w := by
  have h01 : s.pc ≠ s.pc + 1 := by simp
  have h02 : s.pc ≠ s.pc + 2 := by simp
  have h12 : s.pc + 1 ≠ s.pc + 2 := by simp
  simp only [State.fetch, State.withFetchWord, decodeTableWord, State.write_pc, State.read_write_same,
    State.read_write_ne _ _ h01, State.read_write_ne _ _ h02, State.read_write_ne _ _ h12]

/-! ## The statements -/

/-- Settles O16: the step ran an instruction, and an instruction's writes keep the canonical form. -/
theorem stepKeepsTheCanonicalMemory : Obligations.StepKeepsTheCanonicalMemory := by
  intro s t hs hstep
  obtain ⟨i, -, he⟩ := step_eq_next hstep
  exact (exec_memEffect he).inv hs

/-- Settles O19: the fetch finds the placed instruction. -/
theorem placedInstructionRunsNext : Obligations.PlacedInstructionRunsNext := by
  intro s nbits w i hi
  exact step_of_fetch ((s.fetch_withFetchWord nbits w).trans hi)

/-- Settles O20: the address of the high byte is the next offset of the same page. -/
theorem pageReadStaysInThePage : Obligations.PageReadStaysInThePage := by
  intro s a
  exact ⟨rfl, s.readPage16_of_ne, s.readPage16_of_eq, rfl, rfl, fun _ => mnemonic_of_mode_ind,
    fun b => ⟨rfl, fun _ => rfl⟩, fun m other => effectiveAddress_setMem s other⟩

/-- Settles O59: a changed byte is where an instruction stored or pushed. -/
theorem memoryChangesOnlyWhereWritten : Obligations.MemoryChangesOnlyWhereWritten := by
  intro i s t b he hne
  exact (exec_memEffect he).changed hne

/-- Settles O14, which is the rule for a read after a write. -/
theorem readAfterWrite : Obligations.ReadAfterWrite :=
  State.read_write

end Sys2Proof.Machine
end

section
/-! Proofs of the statements about the encoding: the mode fixes the length (R52, R53), the fetched instruction
holds the bytes at PC (R50, R54), and NOP with its one encoding (R206). -/

namespace Sys2Proof

/-! ## Lengths by mode (R52) -/

/-- The length of each mode, listed by the value. -/
theorem Mode.length_eq (m : Mode) : m.length =
    if m ∈ [Mode.imp, .acc] then 1
    else if m ∈ [Mode.imm, .zp, .zpx, .zpy, .indx, .indy, .rel] then 2 else 3 := by
  cases m <;> rfl

/-- The operand bytes and the opcode byte fill the length of the mode. -/
theorem Operand.length_bytes (o : Operand) : o.bytes.length + 1 = o.mode.length := by
  cases o with
  | mem m => cases m <;> rfl
  | _ => rfl

theorem Instr.length_operand_bytes (i : Instr) : i.operand.bytes.length + 1 = i.length :=
  i.operand.length_bytes

@[simp] theorem length_encode (i : Instr) : (encode i).length = i.length :=
  i.length_operand_bytes

/-! ## What the decoder read -/

/-- What a row that agrees with its instruction reads: the row's opcode and mode, and operand bytes that stand
at the head of the bytes read. -/
theorem Row.Agrees.of_read {r : Row} {bytes rest : List Byte} {i : Instr} (hr : r.Agrees)
    (h : r.form.read bytes = .ok (i, rest)) :
    i.opcode.toNat = r.opcode ∧ i.mode = r.mode ∧ i.operand.bytes ++ rest = bytes := by
  obtain ⟨_, _, _, _, form⟩ := r
  cases form with
  | f1 k =>
    cases h
    obtain ⟨hopc, -, hmode, hbytes⟩ := hr
    exact ⟨hopc, hmode, by rw [hbytes]; rfl⟩
  | f2 build =>
    cases bytes with
    | nil => cases h
    | cons b1 tail =>
      cases h
      obtain ⟨hopc, -, hmode, hbytes⟩ := hr b1
      exact ⟨hopc, hmode, by rw [hbytes]; rfl⟩
  | f3 build =>
    match bytes, h with
    | b1 :: b2 :: tail, h =>
      cases h
      obtain ⟨hopc, -, hmode, hbytes⟩ := hr (wordOf b2 b1)
      exact ⟨hopc, hmode, by rw [hbytes, lowByte_wordOf, highByte_wordOf]; rfl⟩

/-- Everything the decoder can have read: an instruction with the first byte as its opcode, the mode of that
byte's row, and the next bytes as its operand bytes (R53, R54). -/
theorem decode_cons_eq_ok {opc : Byte} {bytes rest : List Byte} {i : Instr}
    (h : decode (opc :: bytes) = .ok (i, rest)) :
    ∃ r, lookup opc = some r ∧ i.opcode = opc ∧ i.mode = r.mode ∧
      i.operand.bytes ++ rest = bytes := by
  cases hl : lookup opc with
  | none => rw [decode_of_lookup_none hl] at h; cases h
  | some r =>
    rw [decode_of_lookup hl] at h
    obtain ⟨hagrees, hr⟩ := lookup_eq_some hl
    obtain ⟨hopc, hmode, hbytes⟩ := hagrees.of_read h
    exact ⟨r, rfl, BitVec.eq_of_toNat_eq (hopc.trans hr), hmode, hbytes⟩

/-- The bytes read are the encoding of the instruction and then the bytes left over. -/
theorem encode_append_of_decode {bytes rest : List Byte} {i : Instr}
    (h : decode bytes = .ok (i, rest)) : encode i ++ rest = bytes := by
  cases bytes with
  | nil => cases h
  | cons opc tail =>
    obtain ⟨_, -, hopc, -, hbytes⟩ := decode_cons_eq_ok h
    rw [encode, hopc, List.cons_append, hbytes]

/-- The decoded length is the length of the row's mode. -/
theorem length_eq_mode_length_of_decode {opc : Byte} {bytes rest : List Byte} {i : Instr} {r : Row}
    (hl : lookup opc = some r) (h : decode (opc :: bytes) = .ok (i, rest)) :
    i.length = r.mode.length := by
  obtain ⟨q, hq, -, hmode, -⟩ := decode_cons_eq_ok h
  obtain rfl : q = r := Option.some.inj (hq.symm.trans hl)
  rw [Instr.length, hmode]

/-- The decoder takes as many bytes as the instruction is long. -/
theorem bytes_length_of_decode {bytes rest : List Byte} {i : Instr}
    (h : decode bytes = .ok (i, rest)) : bytes.length = i.length + rest.length := by
  rw [← encode_append_of_decode h, List.length_append, length_encode]

/-- The length depends on the first byte alone (R53). -/
theorem length_eq_of_same_opcode {opc : Byte} {x y rx ry : List Byte} {i j : Instr}
    (hi : decode (opc :: x) = .ok (i, rx)) (hj : decode (opc :: y) = .ok (j, ry)) :
    i.length = j.length := by
  obtain ⟨r, hl, -⟩ := decode_cons_eq_ok hi
  rw [length_eq_mode_length_of_decode hl hi, length_eq_mode_length_of_decode hl hj]

/-- What `decodeBytes` gives the list decoder read from the three bytes. -/
theorem decode_of_decodeBytes {opc b1 b2 : Byte} {i : Instr}
    (h : decodeBytes opc b1 b2 = some i) : ∃ rest, decode [opc, b1, b2] = .ok (i, rest) := by
  cases hd : decode [opc, b1, b2] with
  | error e => simp [decodeBytes, hd] at h
  | ok p =>
    obtain ⟨j, rest⟩ := p
    rw [decodeBytes_of_decode hd] at h
    cases h
    exact ⟨rest, rfl⟩

/-- The instruction at the head of three bytes is encoded by as many of them as it is long. -/
theorem encode_of_decodeBytes {opc b1 b2 : Byte} {i : Instr}
    (h : decodeBytes opc b1 b2 = some i) : encode i = [opc, b1, b2].take i.length := by
  obtain ⟨rest, hd⟩ := decode_of_decodeBytes h
  rw [← encode_append_of_decode hd, List.take_left' (length_encode i)]

/-- The instruction at the head of three bytes has the first as its opcode. -/
theorem opcode_of_decodeBytes {opc b1 b2 : Byte} {i : Instr}
    (h : decodeBytes opc b1 b2 = some i) : i.opcode = opc := by
  obtain ⟨rest, hd⟩ := decode_of_decodeBytes h
  obtain ⟨_, -, hopc, -⟩ := decode_cons_eq_ok hd
  exact hopc

/-- The byte 0xEA is NOP, whatever bytes follow. -/
theorem decodeBytes_nop (b1 b2 : Byte) : decodeBytes 0xEA b1 b2 = some .nop := rfl

/-- A word's successor, computed in the naturals modulo 65536. -/
theorem Word.add_one_eq_ofNat (w : Word) : w + 1 = BitVec.ofNat 16 ((w.toNat + 1) % 65536) := by
  apply BitVec.eq_of_toNat_eq
  simp [BitVec.toNat_add]

namespace Machine

/-- NOP leaves the state as it is and advances by its one byte (R206). -/
theorem exec_nop (s : State) : exec .nop s = .next (s.setPc (s.pc + 1)) := rfl

/-! ## The statements -/

/-- Settles O4: the row of the first byte has the mode, and the mode has the length. -/
theorem modeFixesTheLength : Obligations.ModeFixesTheLength :=
  ⟨fun i => i.mode.length_eq, Instr.length_operand_bytes, fun _ _ _ => bytes_length_of_decode,
    fun _ _ _ _ _ => length_eq_mode_length_of_decode, fun _ bytes hl => decode_of_lookup_none hl bytes,
    fun _ _ _ _ _ _ _ => length_eq_of_same_opcode⟩

/-- Settles O6: the fetch decodes the three bytes from PC on, and the instruction's encoding is their head. -/
theorem fetchReadsTheBytesAtPc : Obligations.FetchReadsTheBytesAtPc := by
  intro s i hf
  exact encode_of_decodeBytes hf

/-- Settles O54: NOP falls through to Advance, and an instruction's opcode byte is the first byte read. -/
theorem nopOnlyAdvances : Obligations.NopOnlyAdvances := by
  refine ⟨fun s => ?_, fun opc b1 b2 => ⟨fun h => (opcode_of_decodeBytes h).symm, ?_⟩⟩
  · rw [exec_nop, Word.add_one_eq_ofNat]
    rfl
  · rintro rfl
    exact decodeBytes_nop b1 b2

end Machine
end Sys2Proof
end

section
/-! Proofs of the statements about the addressing modes: the operand record and the effective address of each
mode (R71 to R83), the handler on the resolved record (R90), and JMP to its effective address (R150). -/

namespace Sys2Proof

/-! ## Users and operand bytes of a mode -/

/-- LDX and STX alone have the mode zp,Y (R57, R75). -/
theorem mnemonic_of_mode_zpy {i : Instr} (hi : i.mode = .zpy) : i.mnemonic ∈ [Mnemonic.ldx, .stx] := by
  cases i with
  | ldxZpy b | stxZpy b => simp [Instr.mnemonic]
  | _ => cases hi

/-- The accumulator forms of the four shifts and rotates alone have the accumulator mode (R57, R83). -/
theorem eq_shift_of_mode_acc {i : Instr} (hi : i.mode = .acc) :
    i ∈ [Instr.aslAcc, .lsrAcc, .rolAcc, .rorAcc] := by
  cases i with
  | aslAcc | lsrAcc | rolAcc | rorAcc => simp
  | _ => cases hi

/-- The indirect instruction is JMP with its two operand bytes, low byte first (R54, R81). -/
theorem eq_jmpInd_of_mode_ind {i : Instr} (hi : i.mode = .ind) :
    i = .jmpInd (wordOf (i.operand.bytes.getD 1 0) (i.operand.bytes.getD 0 0)) := by
  cases i with
  | jmpInd w => exact congrArg Instr.jmpInd (wordOf_highByte_lowByte w).symm
  | _ => cases hi

/-- The operand bytes of a decoded instruction are those behind its opcode byte (R50, R54). -/
theorem operand_bytes_of_decodeBytes {opc b1 b2 : Byte} {i : Instr}
    (h : decodeBytes opc b1 b2 = some i) : i.operand.bytes = [b1, b2].take (i.length - 1) := by
  have henc : i.opcode :: i.operand.bytes = [opc, b1, b2].take i.length := encode_of_decodeBytes h
  rw [← i.length_operand_bytes, List.take_succ_cons] at henc
  rw [← i.length_operand_bytes, Nat.add_sub_cancel]
  exact (List.cons.inj henc).2

namespace Machine

/-! ## Addresses in the naturals -/

theorem wordOf_eq_ofNat (hi lo : Byte) : wordOf hi lo = BitVec.ofNat 16 (hi.toNat * 256 + lo.toNat) := by
  rw [← toNat_wordOf, BitVec.ofNat_toNat, BitVec.setWidth_eq]

theorem zext16_eq_ofNat (v : Byte) : zext16 v = BitVec.ofNat 16 v.toNat :=
  (BitVec.ofNat_toNat 16 v).symm

/-- Adding bytes wraps inside page 0 (R74, R84). -/
theorem zext16_add (v w : Byte) :
    zext16 (v + w) = BitVec.ofNat 16 ((v.toNat + w.toNat) % 256) := by
  rw [zext16_eq_ofNat, BitVec.toNat_add]

/-- Adding a byte to the operand word wraps from 0xFFFF to 0x0000 (R77, R78, R84). -/
theorem wordOf_add_zext16 (hi lo v : Byte) :
    wordOf hi lo + zext16 v =
      BitVec.ofNat 16 ((hi.toNat * 256 + lo.toNat + v.toNat) % 65536) := by
  rw [zext16_eq_ofNat, ← toNat_wordOf]
  apply BitVec.eq_of_toNat_eq
  simp

/-- The zero-page pointer of a sum of bytes has both its bytes in page 0 (R35, R79). -/
theorem State.readZp16_add (s : State) (v w : Byte) :
    s.readZp16 (v + w) =
      wordOf (s.read (BitVec.ofNat 16 (((v.toNat + w.toNat) % 256 + 1) % 256)))
        (s.read (BitVec.ofNat 16 ((v.toNat + w.toNat) % 256))) := by
  rw [State.readZp16, zext16_add (v + w) 1, zext16_add v w, BitVec.toNat_add]
  rfl

/-- The page read of a pointer given as two bytes moves its low byte alone (R36, R81). -/
theorem State.readPage16_wordOf (s : State) (hi lo : Byte) :
    s.readPage16 (wordOf hi lo) = wordOf (s.read (wordOf hi (lo + 1))) (s.read (wordOf hi lo)) := by
  rw [State.readPage16_eq, highByte_wordOf, lowByte_wordOf]

/-- The branch target counts from the address of the next instruction (R82). -/
theorem branchTarget_eq_ofInt (pc : Word) (d : Byte) :
    branchTarget pc d = BitVec.ofInt 16 (pc.toNat + 2 + d.toInt) := by
  rw [branchTarget, sext16, BitVec.signExtend, BitVec.ofInt_add, BitVec.ofInt_add,
    BitVec.ofInt_natCast, BitVec.ofNat_toNat, BitVec.setWidth_eq]
  rfl

/-! ## The operand record (R8, R85) -/

/-- A memory mode other than the indirect one delivers the byte at its effective address. -/
theorem resolve_mem (s : State) {m : MemMode} (hm : m.mode ≠ .ind) :
    resolve s (.mem m) =
      ⟨some (s.read (effectiveAddress s m)), some (.mem (effectiveAddress s m))⟩ := by
  cases m with
  | ind w => exact absurd rfl hm
  | _ => rfl

/-- Every memory mode has its effective address as the write-back target. -/
theorem resolve_mem_wb (s : State) (m : MemMode) :
    (resolve s (.mem m)).wb = some (.mem (effectiveAddress s m)) := by
  cases m <;> rfl

theorem resolve_source_val (s : State) {o : Source} (ho : o.operand.mode ≠ .ind) :
    (resolve s o.operand).val = some (sourceVal s o) := by
  cases o with
  | imm b => rfl
  | mem m => exact congrArg OperandRecord.val (resolve_mem s ho)

theorem resolve_place (s : State) {o : Place} (ho : o.operand.mode ≠ .ind) :
    resolve s o.operand = ⟨some (placeVal s o), some (placeTarget s o)⟩ := by
  cases o with
  | acc => rfl
  | mem m => exact resolve_mem s ho

/-- The record of a memory mode at a known address. -/
theorem resolve_mem_at {s : State} {m : MemMode} {ea : Word} (hm : m.mode ≠ .ind)
    (hea : effectiveAddress s m = ea) :
    resolve s (.mem m) = ⟨some (s.read ea), some (.mem ea)⟩ := by
  rw [resolve_mem s hm, hea]

/-- The indirect mode delivers no byte, and its address is the word read inside the pointer's page (R81). -/
theorem resolve_ind (s : State) (hi lo : Byte) :
    resolve s (.mem (.ind (wordOf hi lo))) =
      ⟨none, some (.mem (wordOf
        (s.read (BitVec.ofNat 16 (hi.toNat * 256 + (lo.toNat + 1) % 256)))
        (s.read (BitVec.ofNat 16 (hi.toNat * 256 + lo.toNat)))))⟩ := by
  rw [resolve, effectiveAddress, State.readPage16_wordOf, wordOf_eq_ofNat hi (lo + 1),
    wordOf_eq_ofNat hi lo, BitVec.toNat_add]
  rfl

/-! ## The handler on the record (R86, R90) -/

/-- An operand of an instruction other than JMP does not have the indirect mode. -/
theorem operand_mode_ne_ind {i : Instr} {o : Operand} {mn : Mnemonic} (op : i.operand = o)
    (hmn : i.mnemonic = mn) (hne : mn ≠ .jmp) : o.mode ≠ .ind :=
  fun h => hne (hmn.symm.trans (mnemonic_of_mode_ind ((congrArg Operand.mode op).trans h)))

theorem giveVal_resolve (s : State) {o : Source} (h : Byte → State → HandlerResult)
    (ho : o.operand.mode ≠ .ind) :
    giveVal h (resolve s o.operand) s = some (h (sourceVal s o) s) := by
  rw [giveVal, resolve_source_val s ho, Option.map_some]

theorem giveBoth_resolve (s : State) {o : Place} (h : Target → Byte → State → HandlerResult)
    (ho : o.operand.mode ≠ .ind) :
    giveBoth h (resolve s o.operand) s = some (h (placeTarget s o) (placeVal s o) s) := by
  rw [giveBoth, resolve_place s ho, Option.bind_some, Option.map_some]

theorem giveAddress_resolve (s : State) (m : MemMode) (h : Word → State → HandlerResult) :
    giveAddress h (resolve s (.mem m)) s = some (h (effectiveAddress s m) s) := by
  rw [giveAddress, resolve_mem_wb, Option.bind_some, Target.ea, Option.map_some]

/-- The handler that `exec` runs is the mnemonic's handler on the record the resolver returns. -/
theorem Handled.handlerFor_resolve {i : Instr} {h : State → HandlerResult} (hh : Handled i h)
    (s : State) : handlerFor i.mnemonic (resolve s i.operand) s = some (h s) := by
  cases hh with
  | adc o op mn | sbc o op mn | cmp o op mn | cpx o op mn | cpy o op mn | and o op mn | ora o op mn
  | eor o op mn | bit o op mn | lda o op mn | ldx o op mn | ldy o op mn =>
    rw [mn, op]
    exact giveVal_resolve s _ (operand_mode_ne_ind op mn (by decide))
  | asl o op mn | lsr o op mn | rol o op mn | ror o op mn | inc o op mn | dec o op mn =>
    rw [mn, op]
    exact giveBoth_resolve s _ (operand_mode_ne_ind op mn (by decide))
  | jmp m op mn | jsr m op mn | sta m op mn | stx m op mn | sty m op mn =>
    rw [mn, op]
    exact giveAddress_resolve s m _
  | bcc d op mn | bcs d op mn | beq d op mn | bne d op mn | bmi d op mn | bpl d op mn | bvc d op mn
  | bvs d op mn =>
    rw [mn, op]
    rfl
  | _ op mn =>
    rw [mn]
    rfl

/-! ## JMP (R150) -/

theorem exec_jmpAbs (w : Word) (s : State) : exec (.jmpAbs w) s = .next (s.setPc w) := rfl

theorem exec_jmpInd (w : Word) (s : State) :
    exec (.jmpInd w) s = .next (s.setPc (s.readPage16 w)) := rfl

/-! ## The statements -/

/-- Settles O23: each mode's effective address, computed in the naturals with the wrap of its width. -/
theorem modesResolveAsStated : Obligations.ModesResolveAsStated := by
  intro s b1 b2
  exact ⟨⟨rfl, rfl⟩, rfl,
    resolve_mem_at nofun (zext16_eq_ofNat b1),
    resolve_mem_at nofun (zext16_add b1 s.x),
    resolve_mem_at nofun (zext16_add b1 s.y),
    resolve_mem_at nofun (wordOf_eq_ofNat b2 b1),
    resolve_mem_at nofun (wordOf_add_zext16 b2 b1 s.x),
    resolve_mem_at nofun (wordOf_add_zext16 b2 b1 s.y),
    resolve_mem_at nofun (s.readZp16_add b1 s.x),
    resolve_ind s b2 b1,
    ⟨rfl, fun pc => branchTarget_eq_ofInt pc b1⟩, ⟨rfl, rfl⟩, rfl,
    fun _ => mnemonic_of_mode_zpy, fun _ => eq_jmpInd_of_mode_ind, fun _ => eq_shift_of_mode_acc,
    fun _ => operand_bytes_of_decodeBytes⟩

/-- Settles O24: `exec` runs the handler on the resolved record, and a mode delivers what the record says. -/
theorem handlersGetTheResolvedOperand : Obligations.HandlersGetTheResolvedOperand := by
  refine ⟨fun i s => ?_, fun s => ⟨resolve_mem_wb s, fun _ => resolve_source_val s,
    fun _ => resolve_place s⟩⟩
  obtain ⟨h, hh, he⟩ := exec_handled i
  exact ⟨h s, hh.handlerFor_resolve s, he s⟩

/-- Settles O37: PC becomes the operand, or the word that the page read finds at it. -/
theorem jmpGoesToTheEffectiveAddress : Obligations.JmpGoesToTheEffectiveAddress := by
  intro s b1 b2
  refine ⟨rfl, exec_jmpAbs _ s, rfl, ?_⟩
  rw [exec_jmpInd, State.readPage16_wordOf]
  rfl

end Machine
end Sys2Proof
end

section
/-! Proofs of the statements about the execution engine: the outcomes of a step (R90, R95, R220), Advance
by the length (R93, R94), and that a step depends on the registers, the flags and the bytes alone (R99). -/

namespace Sys2Proof.Machine

/-! ## The step by its fetch -/

/-- A step without a fetched instruction reports the unknown opcode (R91). -/
theorem step_of_fetch_none {s : State} (h : s.fetch = none) :
    step s = .fault (.unknownOpcode s.pc (s.read s.pc)) := by
  simp [step, h]

/-- Every instruction completes: its handler returns, and Advance answers a next state (R95, R220). -/
theorem exec_isNext (i : Instr) (s : State) : ∃ t, exec i s = .next t := by
  obtain ⟨h, -, he⟩ := exec_handled i
  rw [he s]
  exact (h s).advance_isNext i.length

/-- A step completes the fetched instruction, or reports the unknown opcode (R95). -/
theorem step_completes_or_faults (s : State) :
    (∃ i t, s.fetch = some i ∧ exec i s = .next t ∧ step s = .next t) ∨
      (s.fetch = none ∧ step s = .fault (.unknownOpcode s.pc (s.read s.pc))) := by
  rcases step_cases s with ⟨i, hi, hstep⟩ | hfault
  · obtain ⟨t, ht⟩ := exec_isNext i s
    exact .inl ⟨i, t, hi, ht, hstep.trans ht⟩
  · exact .inr hfault

/-! ## The handlers that fall through -/

/-- The mnemonics whose instructions write PC themselves, or may (R140 to R152, R204, R205). -/
def transferMnemonics : List Mnemonic :=
  [.bcc, .bcs, .beq, .bne, .bmi, .bpl, .bvc, .bvs, .jmp, .jsr, .rts, .rti, .brk]

/-- A handler outside the transfers signals the fall-through and leaves PC at its own opcode byte (R93). -/
theorem Handled.fallthrough {i : Instr} {h : State → HandlerResult} (hh : Handled i h)
    (hmn : i.mnemonic ∉ transferMnemonics) (s : State) :
    ∃ u, h s = .fallthrough u ∧ u.pc = s.pc := by
  cases hh with
  | bcc d op mn | bcs d op mn | beq d op mn | bne d op mn | bmi d op mn | bpl d op mn | bvc d op mn
  | bvs d op mn | jmp m op mn | jsr m op mn | rts op mn | rti op mn | brk op mn =>
    exact absurd (by rw [mn]; decide) hmn
  | asl o op mn | lsr o op mn | rol o op mn | ror o op mn => exact ⟨_, rfl, State.shiftTo_pc ..⟩
  | inc o op mn | dec o op mn => exact ⟨_, rfl, State.writeBack_pc ..⟩
  | _ => exact ⟨_, rfl, rfl⟩

/-! ## States that agree on the registers, the flags and the bytes -/

/-- The two states have the same registers, flags and bytes; their memories may list the bytes differently. -/
structure State.Alike (s t : State) : Prop where
  snapshot : s.snapshot = t.snapshot
  read : ∀ a, s.read a = t.read a

namespace State.Alike

variable {s t : State} (h : s.Alike t)
include h

/-- A state like `s` is `s` with another listing of its bytes. -/
theorem exists_eq_setMem : ∃ m : Memory, t = { s with mem := m } :=
  ⟨t.mem, State.eq_iff_snapshot_mem.mpr ⟨h.snapshot.symm, rfl⟩⟩

theorem pc : s.pc = t.pc := congrArg Snapshot.pc h.snapshot

/-! ### What such states read -/

theorem read16 (a : Word) : s.read16 a = t.read16 a := by
  simp only [State.read16, h.read]

theorem readZp16 (a : Byte) : s.readZp16 a = t.readZp16 a := by
  simp only [State.readZp16, h.read]

theorem readPage16 (a : Word) : s.readPage16 a = t.readPage16 a := by
  simp only [State.readPage16, h.read]

/-- The bytes at PC are the same, so the fetch finds the same instruction. -/
theorem fetch : s.fetch = t.fetch := by
  simp only [State.fetch, h.pc, h.read]

/-- A mode's address comes from the operand, X, Y and the bytes of a pointer. -/
theorem effectiveAddress (m : MemMode) :
    Machine.effectiveAddress s m = Machine.effectiveAddress t m := by
  have hx : s.x = t.x := congrArg Snapshot.x h.snapshot
  have hy : s.y = t.y := congrArg Snapshot.y h.snapshot
  cases m with
  | zp | abs => rfl
  | zpx | absx => simp only [Machine.effectiveAddress, hx]
  | zpy | absy => simp only [Machine.effectiveAddress, hy]
  | indx => simp only [Machine.effectiveAddress, hx, h.readZp16]
  | indy => simp only [Machine.effectiveAddress, hy, h.readZp16]
  | ind => exact h.readPage16 _

theorem sourceVal (o : Source) : Machine.sourceVal s o = Machine.sourceVal t o := by
  cases o with
  | imm => rfl
  | mem m => simp only [Machine.sourceVal, h.effectiveAddress, h.read]

theorem placeVal (o : Place) : Machine.placeVal s o = Machine.placeVal t o := by
  cases o with
  | acc => exact congrArg Snapshot.a h.snapshot
  | mem m => simp only [Machine.placeVal, h.effectiveAddress, h.read]

theorem placeTarget (o : Place) : Machine.placeTarget s o = Machine.placeTarget t o := by
  cases o with
  | acc => rfl
  | mem m => simp only [Machine.placeTarget, h.effectiveAddress]

/-! ### What keeps them alike -/

/-- An update that gives both the same registers and flags and keeps both memories. -/
theorem of_mem {u v : State} (hsnap : u.snapshot = v.snapshot) (hu : u.mem = s.mem)
    (hv : v.mem = t.mem) : u.Alike v :=
  ⟨hsnap, fun a => (State.read_congr hu a).trans ((h.read a).trans (State.read_congr hv a).symm)⟩

theorem setPc {v w : Word} (hvw : v = w) : (s.setPc v).Alike (t.setPc w) := by
  obtain ⟨m, rfl⟩ := h.exists_eq_setMem
  subst hvw
  exact h.of_mem rfl rfl rfl

theorem loadA {v w : Byte} (hvw : v = w) : (s.loadA v).Alike (t.loadA w) := by
  obtain ⟨m, rfl⟩ := h.exists_eq_setMem
  subst hvw
  exact h.of_mem rfl rfl rfl

theorem unpackP {p q : Byte} (hpq : p = q) : (s.unpackP p).Alike (t.unpackP q) := by
  obtain ⟨m, rfl⟩ := h.exists_eq_setMem
  subst hpq
  exact h.of_mem rfl rfl rfl

theorem write (a : Word) (v : Byte) : (s.write a v).Alike (t.write a v) :=
  ⟨h.snapshot, fun b => by rw [State.read_write, State.read_write, h.read]⟩

theorem writeBack (g : Target) (v : Byte) : (s.writeBack g v).Alike (t.writeBack g v) := by
  cases g with
  | acc =>
    obtain ⟨m, rfl⟩ := h.exists_eq_setMem
    exact h.of_mem rfl rfl rfl
  | mem ea => exact h.write ea v

theorem shiftTo (g : Target) (res : Byte) (c : Bool) :
    (s.shiftTo g res c).Alike (t.shiftTo g res c) := by
  obtain ⟨m, rfl⟩ := h.exists_eq_setMem
  unfold State.shiftTo
  refine writeBack ?_ g res
  exact h.of_mem rfl rfl rfl

theorem push (v : Byte) : (s.push v).Alike (t.push v) := by
  obtain ⟨m, rfl⟩ := h.exists_eq_setMem
  exact (h.write (stackAddr s.sp) v).of_mem rfl rfl rfl

theorem pushWord (w : Word) : (s.pushWord w).Alike (t.pushWord w) :=
  (h.push (highByte w)).push (lowByte w)

theorem pull_fst : s.pull.1 = t.pull.1 := by
  obtain ⟨m, rfl⟩ := h.exists_eq_setMem
  exact h.read (stackAddr (s.sp + 1))

theorem pull_snd : s.pull.2.Alike t.pull.2 := by
  obtain ⟨m, rfl⟩ := h.exists_eq_setMem
  exact h.of_mem rfl rfl rfl

theorem pullWord_fst : s.pullWord.1 = t.pullWord.1 :=
  congrArg₂ wordOf h.pull_snd.pull_fst h.pull_fst

theorem pullWord_snd : s.pullWord.2.Alike t.pullWord.2 :=
  h.pull_snd.pull_snd

/-- The trap pushes the same bytes and finds the same vector. -/
theorem trapEntry : s.trapEntry.Alike t.trapEntry := by
  have hvector : s.trapEntry.pc = t.trapEntry.pc := by
    rw [State.trapEntry_pc, State.trapEntry_pc, h.read16]
  obtain ⟨m, rfl⟩ := h.exists_eq_setMem
  have hpushed := (h.pushWord (s.pc + 2)).push s.packP
  refine hpushed.of_mem ?_ rfl rfl
  simp [State.snapshot, hvector]

/-- The return pulls the same bytes. -/
theorem trapReturn : s.trapReturn.Alike t.trapReturn :=
  have hflags := h.pull_snd.unpackP h.pull_fst
  hflags.pullWord_snd.setPc hflags.pullWord_fst

end State.Alike

/-! ## The step on such states -/

/-- Two handler results with the same signal, and states alike. -/
inductive HandlerResult.Alike : HandlerResult → HandlerResult → Prop where
  | fallthrough {s t : State} (h : s.Alike t) : Alike (.fallthrough s) (.fallthrough t)
  | retarget {s t : State} (h : s.Alike t) : Alike (.retarget s) (.retarget t)

/-- Advance follows the signal and adds the same length to the same PC. -/
theorem HandlerResult.Alike.advance {p q : HandlerResult} (hpq : p.Alike q) {n : Nat} {u : State}
    (hu : p.advance n = .next u) : ∃ v, q.advance n = .next v ∧ u.Alike v := by
  cases hpq with
  | fallthrough h =>
    cases hu
    exact ⟨_, rfl, h.setPc (by rw [h.pc])⟩
  | retarget h =>
    cases hu
    exact ⟨_, rfl, h⟩

/-- A branch on the same condition goes the same way. -/
theorem State.Alike.branch {s t : State} (h : s.Alike t) (c : Bool) (d : Byte) :
    (Machine.branch c d s).Alike (Machine.branch c d t) := by
  cases c with
  | false => exact .fallthrough h
  | true => exact .retarget (h.setPc (by rw [h.pc]))

/-- Each handler takes states alike to results alike. -/
theorem Handled.alike {i : Instr} {f : State → HandlerResult} (hf : Handled i f) {s t : State}
    (h : s.Alike t) : (f s).Alike (f t) := by
  obtain ⟨m, rfl⟩ := h.exists_eq_setMem
  cases hf with
  | adc o | sbc o | cmp o | cpx o | cpy o | and o | ora o | eor o | bit o | lda o | ldx o | ldy o =>
    beta_reduce
    rw [← h.sourceVal o]
    exact .fallthrough (h.of_mem rfl rfl rfl)
  | asl o | lsr o | rol o | ror o =>
    beta_reduce
    rw [← h.placeVal o, ← h.placeTarget o]
    exact .fallthrough (h.shiftTo _ _ _)
  | inc o | dec o =>
    beta_reduce
    rw [← h.placeVal o, ← h.placeTarget o]
    refine .fallthrough (State.Alike.writeBack ?_ _ _)
    exact h.of_mem rfl rfl rfl
  | sta g | stx g | sty g =>
    beta_reduce
    rw [← h.effectiveAddress g]
    exact .fallthrough (h.write _ _)
  | bcc d | bcs d | beq d | bne d | bmi d | bpl d | bvc d | bvs d => exact h.branch _ d
  | jmp g => exact .retarget (h.setPc (h.effectiveAddress g))
  | jsr g => exact .retarget ((h.pushWord (s.pc + 2)).setPc (h.effectiveAddress g))
  | rts => exact .retarget (h.pullWord_snd.setPc (congrArg (· + 1) h.pullWord_fst))
  | pha | php => exact .fallthrough (h.push _)
  | pla => exact .fallthrough (h.pull_snd.loadA h.pull_fst)
  | plp => exact .fallthrough (h.pull_snd.unpackP h.pull_fst)
  | brk => exact .retarget h.trapEntry
  | rti => exact .retarget h.trapReturn
  | _ => exact .fallthrough (h.of_mem rfl rfl rfl)

/-- An instruction completes alike from states alike. -/
theorem exec_alike {i : Instr} {s t u : State} (h : s.Alike t) (hu : exec i s = .next u) :
    ∃ v, exec i t = .next v ∧ u.Alike v := by
  obtain ⟨f, hf, he⟩ := exec_handled i
  rw [he] at hu ⊢
  exact (hf.alike h).advance hu

/-! ## The statements -/

/-- Settles O9: a known byte is fetched and its instruction completes, any other byte faults, and neither
refuses. -/
theorem stepHasTheOutcomesOfTheEngine : Obligations.StepHasTheOutcomesOfTheEngine := by
  intro s
  rw [← s.fetch_isSome]
  rcases step_completes_or_faults s with ⟨i, t, hi, ht, hstep⟩ | ⟨hnone, hstep⟩
  · exact ⟨fun _ => ⟨i, t, hi, ht, hstep⟩, fun hunknown => absurd (by rw [hi]; rfl) hunknown,
      fun r hr => nomatch hstep.symm.trans hr⟩
  · exact ⟨fun hknown => absurd hknown (by simp [hnone]), fun _ => hstep,
      fun r hr => nomatch hstep.symm.trans hr⟩

/-- Settles O11: states alike fetch the same instruction, which takes them to states alike, or the same byte
without a row at the same PC. -/
theorem stepDependsOnRegistersFlagsAndBytes : Obligations.StepDependsOnRegistersFlagsAndBytes := by
  intro s s' hsnap hread
  have h : s.Alike s' := ⟨hsnap, hread⟩
  refine ⟨fun t ht => ?_, fun f hf => ?_⟩
  · obtain ⟨i, hi, he⟩ := step_eq_next ht
    obtain ⟨t', he', htt'⟩ := exec_alike h he
    exact ⟨t', (step_of_fetch (h.fetch ▸ hi)).trans he', htt'.snapshot, htt'.read⟩
  · rcases step_completes_or_faults s with ⟨_, _, -, -, hstep⟩ | ⟨hnone, hstep⟩
    · cases hstep.symm.trans hf
    · rw [step_of_fetch_none (h.fetch ▸ hnone), ← h.pc, ← hread, ← hstep, hf]

/-- Settles O13: such a handler falls through with PC unmoved, and Advance adds the length. -/
theorem otherInstructionsAdvanceByTheirLength :
    Obligations.OtherInstructionsAdvanceByTheirLength := by
  intro i s t he hmn
  obtain ⟨h, hh, hadv⟩ := exec_eq_next he
  obtain ⟨u, hu, hpc⟩ := hh.fallthrough hmn s
  rw [hu] at hadv
  cases hadv
  rw [State.setPc_pc, hpc]

/-- Settles O7: the fetch decodes the same three bytes. -/
theorem stepRunsTheDecodedInstruction : Obligations.StepRunsTheDecodedInstruction := by
  intro s i rest hdecode _
  exact step_of_fetch (decodeBytes_of_decode hdecode)

/-- Settles O8, which is the completion of each instruction. -/
theorem everyInstructionCompletes : Obligations.EveryInstructionCompletes :=
  exec_isNext

end Sys2Proof.Machine
end

section
/-! Proofs of the statements about arithmetic and compare: ADC in every form (R110), its overflow flag and
that of SBC as signed overflow (R115), and CMP, CPX, CPY in every form (R112 to R114). -/

namespace Sys2Proof

open Machine

/-! ## The encoded forms of an instruction -/

/-- The form's opcode byte decodes to its instruction, which changes the state by `update` on the byte of its
operand and advances by the form's length (R90, R94). -/
structure EncodedForm.Updates (f : EncodedForm Source) (b1 b2 : Byte)
    (update : Byte → State → State) : Prop where
  decodes : decodeBytes f.opcode b1 b2 = some f.instr
  exec_eq : ∀ s : State,
    exec f.instr s = .next ((update (sourceVal s f.operand) s).setPc (s.pc + f.length))

/-- The two facts for a form given by its parts. -/
theorem EncodedForm.updates_mk {opc b1 b2 : Byte} {i : Instr} {o : Source} {n : Word}
    {update : Byte → State → State} (hdecodes : decodeBytes opc b1 b2 = some i)
    (hexec : ∀ s, exec i s = .next ((update (sourceVal s o) s).setPc (s.pc + n))) :
    (⟨opc, i, o, n⟩ : EncodedForm Source).Updates b1 b2 update :=
  ⟨hdecodes, hexec⟩

/-- Every form of ADC adds its operand with carry (R110). -/
theorem Forms.adc_updates (b1 b2 : Byte) :
    ∀ f ∈ Forms.adc b1 b2, f.Updates b1 b2 fun m s => s.addWithCarry m := by
  simp only [Forms.adc, List.forall_mem_cons, List.not_mem_nil, false_implies, implies_true, and_true]
  refine ⟨?_, ?_, ?_, ?_, ?_, ?_, ?_, ?_⟩ <;> exact EncodedForm.updates_mk rfl fun _ => rfl

/-- Every form of CMP compares A with its operand (R112). -/
theorem Forms.cmp_updates (b1 b2 : Byte) :
    ∀ f ∈ Forms.cmp b1 b2, f.Updates b1 b2 fun m s => s.compare s.a m := by
  simp only [Forms.cmp, List.forall_mem_cons, List.not_mem_nil, false_implies, implies_true, and_true]
  refine ⟨?_, ?_, ?_, ?_, ?_, ?_, ?_, ?_⟩ <;> exact EncodedForm.updates_mk rfl fun _ => rfl

/-- Every form of CPX compares X with its operand (R113). -/
theorem Forms.cpx_updates (b1 b2 : Byte) :
    ∀ f ∈ Forms.cpx b1 b2, f.Updates b1 b2 fun m s => s.compare s.x m := by
  simp only [Forms.cpx, List.forall_mem_cons, List.not_mem_nil, false_implies, implies_true, and_true]
  refine ⟨?_, ?_, ?_⟩ <;> exact EncodedForm.updates_mk rfl fun _ => rfl

/-- Every form of CPY compares Y with its operand (R114). -/
theorem Forms.cpy_updates (b1 b2 : Byte) :
    ∀ f ∈ Forms.cpy b1 b2, f.Updates b1 b2 fun m s => s.compare s.y m := by
  simp only [Forms.cpy, List.forall_mem_cons, List.not_mem_nil, false_implies, implies_true, and_true]
  refine ⟨?_, ?_, ?_⟩ <;> exact EncodedForm.updates_mk rfl fun _ => rfl

namespace Machine

/-! ## The addition and the comparison in the terms of the statements -/

/-- `BitVec.ofNat` takes a number modulo 256 already. -/
theorem ofNat_mod_256 (n : Nat) : BitVec.ofNat 8 (n % 256) = BitVec.ofNat 8 n :=
  BitVec.eq_of_toNat_eq (by simp)

/-- The 8-bit difference is zero exactly for equal bytes. -/
theorem sub_beq_zero (r m : Byte) : (r - m == 0) = decide (r = m) := by
  simp only [beq_zero_eq_decide, sub_eq_zero]

/-- The 8-bit difference is the difference of the unsigned values modulo 256. -/
theorem sub_eq_ofInt (r m : Byte) : r - m = BitVec.ofInt 8 ((r.toNat : Int) - m.toNat) := by
  rw [Int.sub_eq_add_neg, BitVec.ofInt_add, BitVec.ofInt_neg, BitVec.ofInt_natCast,
    BitVec.ofInt_natCast, BitVec.ofNat_toNat, BitVec.ofNat_toNat, BitVec.setWidth_eq,
    BitVec.setWidth_eq, BitVec.sub_eq_add_neg]

/-- The whole addition (R110): A and four flags, each by the sum or by the signs. -/
theorem State.addWithCarry_eq (s : State) (m : Byte) :
    s.addWithCarry m =
      { s with
        a := (s.addWithCarry m).a
        flagC := decide (256 ≤ s.a.toNat + m.toNat + s.flagC.toNat)
        flagV := decide (s.a.msb = m.msb ∧ (s.addWithCarry m).a.msb ≠ s.a.msb)
        flagN := (s.addWithCarry m).a.msb
        flagZ := decide ((s.addWithCarry m).a = 0) } := by
  rw [← overflow_eq_signs, ← bitOf_seven, ← beq_zero_eq_decide]
  rfl

/-- The whole comparison (R112 to R114): three flags, and no register. -/
theorem State.compare_eq (s : State) (r m : Byte) :
    s.compare r m =
      { s with
        flagC := decide (m.toNat ≤ r.toNat)
        flagZ := decide (r = m)
        flagN := (r - m).msb } := by
  rw [← sub_beq_zero, ← bitOf_seven]
  rfl

/-! ## The overflow flag as signed overflow (R115) -/

/-- V of the addition is true exactly when the signed sum leaves -128..127: in the unsigned values a byte is
negative from 128 on, and the sum wraps at 256. -/
theorem State.addWithCarry_flagV_iff (s : State) (m : Byte) :
    (s.addWithCarry m).flagV = true ↔
      s.a.toInt + m.toInt + s.flagC.toNat < -128 ∨ 127 < s.a.toInt + m.toInt + s.flagC.toNat := by
  have hc := s.flagC.toNat_le
  have ha := s.a.isLt
  have hm := m.isLt
  rw [State.addWithCarry_eq, decide_eq_true_iff]
  simp only [State.addWithCarry_a, BitVec.msb_eq_decide, BitVec.toInt_eq_toNat_cond,
    BitVec.toNat_ofNat, decide_eq_decide, ne_eq]
  omega

/-- The signed value of the one's complement, which SBC adds (R111). -/
theorem toInt_xor_0xFF (m : Byte) : (m ^^^ 0xFF).toInt = -1 - m.toInt := by
  have hnot : m ^^^ 0xFF = ~~~m := BitVec.xor_allOnes
  have hm := m.isLt
  rw [hnot, BitVec.toInt_eq_toNat_cond, BitVec.toInt_eq_toNat_cond, BitVec.toNat_not]
  omega

theorem exec_adcImm (m : Byte) (s : State) :
    exec (.adcImm m) s = .next ((s.addWithCarry m).setPc (s.pc + 2)) := rfl

theorem exec_sbcImm (m : Byte) (s : State) :
    exec (.sbcImm m) s = .next ((s.addWithCarry (m ^^^ 0xFF)).setPc (s.pc + 2)) := rfl

/-! ## The statements -/

/-- Settles O25: each form adds its operand with carry, which takes the sum modulo 256 and compares signs. -/
theorem adcAddsWithCarry : Obligations.AdcAddsWithCarry := by
  intro s b1 b2 f hf
  have h := Forms.adc_updates b1 b2 f hf
  refine ⟨h.decodes, ?_⟩
  rw [h.exec_eq, State.addWithCarry_eq, State.addWithCarry_a, ofNat_mod_256]
  rfl

/-- Settles O27: ADC's V is that of the addition; SBC adds the complement, whose signed value is -1 - M. -/
theorem overflowIsSignedOverflow : Obligations.OverflowIsSignedOverflow := by
  intro s m
  refine ⟨_, _, exec_adcImm m s, exec_sbcImm m s, s.addWithCarry_flagV_iff m, ?_⟩
  rw [State.setPc_flagV, State.addWithCarry_flagV_iff, toInt_xor_0xFF]
  omega

/-- Settles O28: each form compares its operand with the register, and the difference is taken modulo 256. -/
theorem comparesSetCarryZeroNegative : Obligations.ComparesSetCarryZeroNegative := by
  intro s b1 b2 q hq f hf
  obtain ⟨reg, hreg, h⟩ : ∃ reg : State → Byte,
      q.1 = reg s ∧ f.Updates b1 b2 fun m s => s.compare (reg s) m := by
    simp only [List.mem_cons, List.not_mem_nil, or_false] at hq
    rcases hq with rfl | rfl | rfl
    · exact ⟨State.a, rfl, Forms.cmp_updates b1 b2 f hf⟩
    · exact ⟨State.x, rfl, Forms.cpx_updates b1 b2 f hf⟩
    · exact ⟨State.y, rfl, Forms.cpy_updates b1 b2 f hf⟩
  refine ⟨h.decodes, ?_⟩
  rw [h.exec_eq, State.compare_eq, hreg, ← sub_eq_ofInt]
  rfl

end Machine
end Sys2Proof
end

section
/-! Proof of the statement about the bitwise operations: AND, ORA, EOR in every form (R120 to R122). -/

namespace Sys2Proof

open Machine

/-! ## The encoded forms -/

/-- Every form of AND loads A with the conjunction of A and its operand (R120). -/
theorem Forms.and_updates (b1 b2 : Byte) :
    ∀ f ∈ Forms.and b1 b2, f.Updates b1 b2 fun m s => s.loadA (s.a &&& m) := by
  simp only [Forms.and, List.forall_mem_cons, List.not_mem_nil, false_implies, implies_true, and_true]
  refine ⟨?_, ?_, ?_, ?_, ?_, ?_, ?_, ?_⟩ <;> exact EncodedForm.updates_mk rfl fun _ => rfl

/-- Every form of ORA loads A with the disjunction of A and its operand (R121). -/
theorem Forms.ora_updates (b1 b2 : Byte) :
    ∀ f ∈ Forms.ora b1 b2, f.Updates b1 b2 fun m s => s.loadA (s.a ||| m) := by
  simp only [Forms.ora, List.forall_mem_cons, List.not_mem_nil, false_implies, implies_true, and_true]
  refine ⟨?_, ?_, ?_, ?_, ?_, ?_, ?_, ?_⟩ <;> exact EncodedForm.updates_mk rfl fun _ => rfl

/-- Every form of EOR loads A with the exclusive disjunction of A and its operand (R122). -/
theorem Forms.eor_updates (b1 b2 : Byte) :
    ∀ f ∈ Forms.eor b1 b2, f.Updates b1 b2 fun m s => s.loadA (s.a ^^^ m) := by
  simp only [Forms.eor, List.forall_mem_cons, List.not_mem_nil, false_implies, implies_true, and_true]
  refine ⟨?_, ?_, ?_, ?_, ?_, ?_, ?_, ?_⟩ <;> exact EncodedForm.updates_mk rfl fun _ => rfl

namespace Machine

/-- The whole load of A (R7): the register, N and Z, and nothing else. -/
theorem State.loadA_eq (s : State) (v : Byte) :
    s.loadA v = { s with a := v, flagN := v.msb, flagZ := decide (v = 0) } := by
  rw [← bitOf_seven, ← beq_zero_eq_decide]
  rfl

/-! ## The statement -/

/-- Settles O29: each form loads A with a byte operation that acts on each bit as the statement's Boolean
operation does. -/
theorem logicalInstructionsCombineBits : Obligations.LogicalInstructionsCombineBits := by
  intro s b1 b2 q hq f hf
  obtain ⟨op, hbits, h⟩ : ∃ op : Byte → Byte → Byte,
      (∀ v m k, (op v m).getLsbD k = q.1 (v.getLsbD k) (m.getLsbD k)) ∧
        f.Updates b1 b2 fun m s => s.loadA (op s.a m) := by
    simp only [List.mem_cons, List.not_mem_nil, or_false] at hq
    rcases hq with rfl | rfl | rfl
    · exact ⟨(· &&& ·), fun _ _ _ => BitVec.getLsbD_and, Forms.and_updates b1 b2 f hf⟩
    · exact ⟨(· ||| ·), fun _ _ _ => BitVec.getLsbD_or, Forms.ora_updates b1 b2 f hf⟩
    · exact ⟨(· ^^^ ·), fun _ _ _ => BitVec.getLsbD_xor, Forms.eor_updates b1 b2 f hf⟩
  refine ⟨h.decodes, op s.a (sourceVal s f.operand), fun k _ => hbits _ _ k, ?_⟩
  rw [h.exec_eq, State.loadA_eq]
  rfl

end Machine
end Sys2Proof
end

section
/-! Proof of the statement about ASL in every form (R130), with the rules that it shares with every instruction
that writes its result back where the operand came from (R85, R134). -/

namespace Sys2Proof

open Machine

/-! ## The encoded forms of an instruction that writes back -/

/-- The form's opcode byte decodes to its instruction, which changes the state by `update` on the write-back
target and the byte of its operand, both taken before it runs (R134), and advances by the form's length (R90,
R94). -/
structure EncodedForm.Modifies (f : EncodedForm Place) (b1 b2 : Byte)
    (update : Target → Byte → State → State) : Prop where
  decodes : decodeBytes f.opcode b1 b2 = some f.instr
  exec_eq : ∀ s : State,
    exec f.instr s =
      .next ((update (placeTarget s f.operand) (placeVal s f.operand) s).setPc (s.pc + f.length))

/-- The two facts for a form given by its parts. -/
theorem EncodedForm.modifies_mk {opc b1 b2 : Byte} {i : Instr} {o : Place} {n : Word}
    {update : Target → Byte → State → State} (hdecodes : decodeBytes opc b1 b2 = some i)
    (hexec : ∀ s, exec i s = .next ((update (placeTarget s o) (placeVal s o) s).setPc (s.pc + n))) :
    (⟨opc, i, o, n⟩ : EncodedForm Place).Modifies b1 b2 update :=
  ⟨hdecodes, hexec⟩

/-- Every form of ASL shifts its operand left, and the old bit 7 leaves into C (R130). -/
theorem Forms.asl_modifies (b1 b2 : Byte) :
    ∀ f ∈ Forms.asl b1 b2, f.Modifies b1 b2 fun t v s => s.shiftTo t (v <<< 1) (bitOf v 7) := by
  simp only [Forms.asl, List.forall_mem_cons, List.not_mem_nil, false_implies, implies_true, and_true]
  refine ⟨?_, ?_, ?_, ?_, ?_⟩ <;> exact EncodedForm.modifies_mk rfl fun _ => rfl

/-! ## The write-back in the terms of the statements -/

/-- A write-back to a place of `s` from a state with the memory of `s`, and then Advance: the accumulator
alone, or the one byte at the place's effective address alone (R8). -/
theorem writesBack_writeBack {s u : State} (o : Place) (res : Byte) (w : Word) (hu : u.mem = s.mem) :
    WritesBack s ((u.writeBack (placeTarget s o) res).setPc w) (u.setPc w) o res := by
  cases o with
  | acc => rfl
  | mem m =>
    refine ⟨⟨State.read_write_same u _ res, fun b hb => ?_⟩, ?_⟩
    · calc (u.write (effectiveAddress s m) res).read b
        _ = u.read b := State.read_write_ne u res hb
        _ = s.read b := State.read_congr hu b
    · exact State.eq_iff_snapshot_mem.mpr ⟨rfl, hu.symm⟩

/-- The common end of the shifts (R130 to R133), and then Advance: C, N and Z, and the result written back. -/
theorem writesBack_shiftTo (s : State) (o : Place) (res : Byte) (carry : Bool) (w : Word) :
    WritesBack s ((s.shiftTo (placeTarget s o) res carry).setPc w)
      { s with flagC := carry, flagN := res.msb, flagZ := decide (res = 0), pc := w } o res := by
  rw [← bitOf_seven, ← beq_zero_eq_decide]
  exact writesBack_writeBack (u := { s.setNZ res with flagC := carry }) o res w rfl

namespace Machine

/-- The left shift by one doubles the value modulo 256. -/
theorem shiftLeft_one_eq_ofNat (v : Byte) : v <<< 1 = BitVec.ofNat 8 (v.toNat * 2 % 256) := by
  apply BitVec.eq_of_toNat_eq
  simp [Nat.shiftLeft_eq]

/-! ## The statement -/

/-- Settles O31: each form ends in the shifts' common write-back, of the doubled value and the old bit 7. -/
theorem aslShiftsLeft : Obligations.AslShiftsLeft := by
  intro s b1 b2 f hf v res
  have h := Forms.asl_modifies b1 b2 f hf
  have hres : v <<< 1 = res := shiftLeft_one_eq_ofNat v
  refine ⟨h.decodes, _, h.exec_eq s, ?_⟩
  rw [← hres, ← bitOf_seven v]
  exact writesBack_shiftTo s f.operand (v <<< 1) (bitOf v 7) (s.pc + f.length)

end Machine
end Sys2Proof
end

section
/-! Proof of the statement about the branches: each runs `Branch` on its one flag (R140 to R148). -/

namespace Sys2Proof.Machine

/-! ## A branch and then Advance, by its condition -/

/-- A taken branch retargets, so Advance adds nothing to the target (R82, R94). -/
theorem branch_true_advance (d : Byte) (s : State) (n : Nat) :
    (branch true d s).advance n = .next (s.setPc (branchTarget s.pc d)) := rfl

/-- A branch not taken falls through, so Advance adds the length (R94). -/
theorem branch_false_advance (d : Byte) (s : State) (n : Nat) :
    (branch false d s).advance n = .next (s.setPc (s.pc + BitVec.ofNat 16 n)) := rfl

/-! ## The statement -/

/-- Settles O36: each of the eight runs `Branch` on its flag or on the negation of its flag, so the test named
is the condition of `Branch`. -/
theorem branchesTestOneFlag : Obligations.BranchesTestOneFlag := by
  intro s d b2 q hq
  obtain ⟨cond, htest, hdecodes, hexec⟩ : ∃ cond : Bool,
      q.2.2 = (cond = true) ∧ decodeBytes q.1 d b2 = some q.2.1 ∧
        exec q.2.1 s = (branch cond d s).advance Mode.rel.length := by
    simp only [List.mem_cons, List.not_mem_nil, or_false] at hq
    rcases hq with rfl | rfl | rfl | rfl | rfl | rfl | rfl | rfl <;> dsimp only
    · exact ⟨!s.flagC, (Bool.not_eq_true' _).symm, rfl, rfl⟩
    · exact ⟨s.flagC, rfl, rfl, rfl⟩
    · exact ⟨s.flagZ, rfl, rfl, rfl⟩
    · exact ⟨!s.flagZ, (Bool.not_eq_true' _).symm, rfl, rfl⟩
    · exact ⟨s.flagN, rfl, rfl, rfl⟩
    · exact ⟨!s.flagN, (Bool.not_eq_true' _).symm, rfl, rfl⟩
    · exact ⟨!s.flagV, (Bool.not_eq_true' _).symm, rfl, rfl⟩
    · exact ⟨s.flagV, rfl, rfl, rfl⟩
  rw [← branchTarget_eq_ofInt, hexec, htest]
  refine ⟨hdecodes, ?taken, ?notTaken, rfl, rfl⟩
  case taken =>
    rintro rfl
    exact branch_true_advance d s _
  case notTaken =>
    intro hnot
    rw [eq_false_of_ne_true hnot]
    exact branch_false_advance d s _

end Sys2Proof.Machine
end

section
/-! Proof of the statement about the flag clears: each is a one-byte instruction whose handler falls through
with one flag false (R160 to R163). -/

namespace Sys2Proof

/-- A row of the format without operand bytes (R52) decodes to its instruction, whatever bytes follow. -/
theorem decodeBytes_of_lookup_f1 {opc : Byte} {r : Row} {i : Instr} (hrow : lookup opc = some r)
    (hform : r.form = .f1 i) (b1 b2 : Byte) : decodeBytes opc b1 b2 = some i := by
  refine decodeBytes_of_decode (rest := [b1, b2]) ?_
  rw [decode_of_lookup hrow, hform]
  rfl

namespace Machine

/-- An implied instruction whose handler falls through leaves the handler's state and advances PC by its one
byte (R71, R94). -/
theorem runImplied_of_fallthrough {h : State → HandlerResult} {s u : State}
    (hu : h s = .fallthrough u) : runImplied h s = .next (u.setPc (u.pc + 1)) := by
  rw [runImplied, hu]
  rfl

theorem exec_clc (s : State) : exec .clc s = .next { s with flagC := false, pc := s.pc + 1 } :=
  runImplied_of_fallthrough (h := handleClc) rfl

theorem exec_cld (s : State) : exec .cld s = .next { s with flagD := false, pc := s.pc + 1 } :=
  runImplied_of_fallthrough (h := handleCld) rfl

theorem exec_cli (s : State) : exec .cli s = .next { s with flagI := false, pc := s.pc + 1 } :=
  runImplied_of_fallthrough (h := handleCli) rfl

theorem exec_clv (s : State) : exec .clv s = .next { s with flagV := false, pc := s.pc + 1 } :=
  runImplied_of_fallthrough (h := handleClv) rfl

/-! ## The statement -/

/-- Settles O41: the row of each opcode byte holds its instruction, whose handler clears the one flag and falls
through. -/
theorem flagClearsClearOneFlag : Obligations.FlagClearsClearOneFlag := by
  intro s b1 b2
  refine ⟨⟨?_, exec_clc s⟩, ⟨?_, exec_cld s⟩, ⟨?_, exec_cli s⟩, ⟨?_, exec_clv s⟩⟩
  · exact decodeBytes_of_lookup_f1 lookup_clc rfl b1 b2
  · exact decodeBytes_of_lookup_f1 lookup_cld rfl b1 b2
  · exact decodeBytes_of_lookup_f1 lookup_cli rfl b1 b2
  · exact decodeBytes_of_lookup_f1 lookup_clv rfl b1 b2

end Machine
end Sys2Proof
end

section
/-! Proofs of the statements about the decoder and the encoder: each inverts the other (R51, R54), the words
written out from the map (R60), the bytes the decoder and the step refuse (R58, R91), and Advance by the signal
(R94). -/

namespace Sys2Proof

/-! ## A row's format builds the instruction whose opcode byte selects it -/

/-- The format builds the instruction from its operand bytes (R51, R54). -/
inductive Form.Builds (i : Instr) : Form → Prop where
  | f1 (hbytes : i.operand.bytes = []) : Builds i (.f1 i)
  | f2 {mk : Byte → Instr} (b : Byte) (hi : i = mk b) (hbytes : i.operand.bytes = [b]) :
    Builds i (.f2 mk)
  | f3 {mk : Word → Instr} (w : Word) (hi : i = mk w)
    (hbytes : i.operand.bytes = [lowByte w, highByte w]) : Builds i (.f3 mk)

/-- A format reads the instruction that it builds back from the operand bytes. -/
theorem Form.Builds.read {f : Form} {i : Instr} (h : Form.Builds i f) (rest : List Byte) :
    f.read (i.operand.bytes ++ rest) = .ok (i, rest) := by
  cases h with
  | f1 hbytes => rw [hbytes]; rfl
  | f2 b hi hbytes => rw [hbytes, hi]; rfl
  | f3 w hi hbytes =>
    have hw : wordOf (highByte w) (lowByte w) = w := wordOf_highByte_lowByte w
    rw [hbytes, hi, List.cons_append, List.cons_append, Form.read, hw, List.nil_append]

/-- The row that an instruction's opcode byte selects builds the instruction (R55, R57). -/
theorem lookup_opcode_builds (i : Instr) : ∃ r, lookup i.opcode = some r ∧ Form.Builds i r.form := by
  cases i with
  | aslAcc | lsrAcc | rolAcc | rorAcc | rts | clc | cld | cli | clv | sec | sed | sei | tax | tay | txa
  | tya | tsx | txs | inx | iny | dex | dey | pha | php | pla | plp | brk | rti | nop =>
    exact ⟨_, rfl, .f1 rfl⟩
  | adcAbs w | adcAbsx w | adcAbsy w | sbcAbs w | sbcAbsx w | sbcAbsy w | cmpAbs w | cmpAbsx w | cmpAbsy w
  | cpxAbs w | cpyAbs w | andAbs w | andAbsx w | andAbsy w | oraAbs w | oraAbsx w | oraAbsy w | eorAbs w
  | eorAbsx w | eorAbsy w | bitAbs w | aslAbs w | aslAbsx w | lsrAbs w | lsrAbsx w | rolAbs w | rolAbsx w
  | rorAbs w | rorAbsx w | jmpAbs w | jmpInd w | jsr w | ldaAbs w | ldaAbsx w | ldaAbsy w | ldxAbs w
  | ldxAbsy w | ldyAbs w | ldyAbsx w | staAbs w | staAbsx w | staAbsy w | stxAbs w | styAbs w | incAbs w
  | incAbsx w | decAbs w | decAbsx w =>
    dsimp only [Instr.opcode]
    exact ⟨_, rfl, .f3 w rfl rfl⟩
  | _ b =>
    dsimp only [Instr.opcode]
    exact ⟨_, rfl, .f2 b rfl rfl⟩

/-- The decoder reads an encoded instruction back (R51, R54). -/
theorem decode_encode_append (i : Instr) (rest : List Byte) :
    decode (encode i ++ rest) = .ok (i, rest) := by
  obtain ⟨r, hl, hbuilds⟩ := lookup_opcode_builds i
  calc decode (encode i ++ rest)
    _ = r.form.read (i.operand.bytes ++ rest) := decode_of_lookup hl _
    _ = .ok (i, rest) := hbuilds.read rest

/-! ## The bytes without a row (R58) -/

/-- The 256 bytes in their order. -/
def allBytes : List Byte := (List.range 256).map (BitVec.ofNat 8)

theorem mem_allBytes (b : Byte) : b ∈ allBytes :=
  List.mem_map.mpr ⟨b.toNat, List.mem_range.mpr b.isLt, by simp⟩

/-- The bytes of R58 are, in their order, those without a row of the table. -/
theorem filter_lookup_isNone : allBytes.filter (fun b => (lookup b).isNone) = Forms.unknownOpcodes := by
  decide

theorem lookup_eq_none_iff (opc : Byte) : lookup opc = none ↔ opc ∈ Forms.unknownOpcodes := by
  rw [← filter_lookup_isNone, List.mem_filter, Option.isNone_iff_eq_none]
  exact (and_iff_right (mem_allBytes opc)).symm

/-- A format either reads its operand or is cut short: it never reports an unknown opcode. -/
theorem Form.read_ne_unknownOpcode (f : Form) (bytes : List Byte) (opc : Byte) :
    f.read bytes ≠ .error (.unknownOpcode opc) := by
  cases f with
  | f1 i => exact nofun
  | f2 mk => cases bytes <;> exact nofun
  | f3 mk =>
    match bytes with
    | [] | [_] | _ :: _ :: _ => exact nofun

/-- The decoder reports an unknown opcode exactly for a byte without a row (R53, R58). -/
theorem decode_eq_unknownOpcode_iff (opc : Byte) (rest : List Byte) :
    decode (opc :: rest) = .error (.unknownOpcode opc) ↔ lookup opc = none := by
  cases hl : lookup opc with
  | none => simp [decode_of_lookup_none hl]
  | some r => simp [decode_of_lookup hl, r.form.read_ne_unknownOpcode]

namespace Machine

/-! ## The step on a byte without a row (R91) -/

theorem State.fetch_eq_none_iff (s : State) : s.fetch = none ↔ s.read s.pc ∈ Forms.unknownOpcodes := by
  rw [State.fetch, decodeBytes_eq_none_iff, lookup_eq_none_iff]

/-- A step faults exactly when the fetch finds no instruction, with PC and the byte (R91, R221). -/
theorem step_eq_fault_iff (s : State) (f : Fault) :
    step s = .fault f ↔ s.fetch = none ∧ f = .unknownOpcode s.pc (s.read s.pc) := by
  rcases step_completes_or_faults s with ⟨i, t, hi, -, hstep⟩ | ⟨hnone, hstep⟩
  · simp [hstep, hi]
  · simp [hstep, hnone, eq_comm]

/-! ## A branch to itself (D17) -/

/-- The displacement 0xFE, -2, leads a branch back to its own opcode byte. -/
theorem branchTarget_0xFE (pc : Word) : branchTarget pc 0xFE = pc := by
  have hback : (2 : Word) + sext16 0xFE = 0 := by decide
  rw [branchTarget, BitVec.add_assoc, hback, add_zero]

/-- The branch on a clear carry (R141), advancing by two bytes. -/
theorem exec_bcc (d : Byte) (s : State) : exec (.bcc d) s = (branch (!s.flagC) d s).advance 2 := rfl

/-! ## The statements -/

/-- Settles O1: the row of the opcode byte reads the operand bytes back. -/
theorem decodeOfEncodeIsTheInstruction : Obligations.DecodeOfEncodeIsTheInstruction :=
  decode_encode_append

/-- Settles O2: what a row read is its opcode byte and then the operand bytes of the instruction. -/
theorem encodeOfDecodeIsTheBytes : Obligations.EncodeOfDecodeIsTheBytes :=
  fun _ _ _ => encode_append_of_decode

/-- Settles O3: the decoder refuses a byte by name when it has no row, and those are the bytes of R58. -/
theorem decodeRefusesExactlyUnknownOpcodes : Obligations.DecodeRefusesExactlyUnknownOpcodes := by
  intro opc rest
  rw [decode_eq_unknownOpcode_iff, lookup_eq_none_iff]

/-- Settles O10: the fetch finds no instruction exactly for the bytes of R58. -/
theorem stepFaultsExactlyOnUnknownOpcodes : Obligations.StepFaultsExactlyOnUnknownOpcodes := by
  intro s f
  rw [step_eq_fault_iff, State.fetch_eq_none_iff]

/-- Settles O5: each word is the encoding of its instruction; 0x89 has no row, and JSR's row reads two operand
bytes. -/
theorem wordsDecodeAsTheMapSays : Obligations.WordsDecodeAsTheMapSays := by
  refine ⟨?_, ?_, ?_, ?_, ?_, ?_, ?_, ?_, ?_, ?_, ?_, ?_⟩
  · exact decode_encode_append (.andImm 0x19) []
  · exact decode_encode_append (.ldaAbsx 0x4400) []
  · exact decode_encode_append (.stxZpy 0x10) []
  · exact decode_encode_append (.adcIndy 0x20) []
  · exact decode_encode_append .rorAcc []
  · exact decode_encode_append (.bcc 0xFE) []
  · exact decode_encode_append (.jmpInd 0x5597) []
  · exact decode_encode_append .clv []
  · exact decode_encode_append (.decAbsx 0x1234) []
  · exact decode_encode_append .brk []
  · exact (decodeRefusesExactlyUnknownOpcodes 0x89 []).mpr (by decide)
  · exact decode_of_lookup lookup_jsr [0x10]

/-- Settles O12: Advance is defined by the signal, and a JMP or a branch to its own address sets PC to PC. -/
theorem advanceFollowsTheSignal : Obligations.AdvanceFollowsTheSignal := by
  refine ⟨fun s n => ⟨rfl, rfl⟩, fun s => exec_jmpAbs s.pc s, fun s hc => ?_⟩
  rw [exec_bcc, hc, Bool.not_false, branch_true_advance, branchTarget_0xFE]
  rfl

end Machine
end Sys2Proof
end

section
/-! Proofs of the statements about the host's load (R252), the 16-bit reads with the wrap of their width (R34,
R35, R80), and the stack in page 1 (R14). -/

namespace Sys2Proof

open Machine

/-! ## A byte's neighbours, computed in the naturals modulo 256 -/

theorem Byte.add_one_eq_ofNat (v : Byte) : v + 1 = BitVec.ofNat 8 ((v.toNat + 1) % 256) := by
  apply BitVec.eq_of_toNat_eq
  simp [BitVec.toNat_add]

theorem Byte.sub_one_eq_ofNat (v : Byte) : v - 1 = BitVec.ofNat 8 ((v.toNat + 255) % 256) := by
  apply BitVec.eq_of_toNat_eq
  simp [BitVec.toNat_sub, Nat.add_comm]

namespace Machine

/-! ## The host's load -/

theorem State.hostLoad_cons (s : State) (origin : Word) (v : Byte) (rest : List Byte) :
    s.hostLoad origin (v :: rest) = (s.write origin v).hostLoad (origin + 1) rest := rfl

/-- The load writes memory alone. -/
theorem State.hostLoad_snapshot (s : State) (origin : Word) (bytes : List Byte) :
    (s.hostLoad origin bytes).snapshot = s.snapshot := by
  induction bytes generalizing s origin with
  | nil => rfl
  | cons v rest ih => exact ih (s.write origin v) (origin + 1)

/-- The load keeps the canonical form, byte by byte. -/
theorem State.hostLoad_inv {s : State} (origin : Word) (bytes : List Byte) (hs : Inv s) :
    Inv (s.hostLoad origin bytes) := by
  induction bytes generalizing s origin with
  | nil => exact hs
  | cons v rest ih => exact ih (origin + 1) (State.write_wf origin v hs)

/-- The load leaves every byte that lies at its length or further beyond its origin. -/
theorem State.read_hostLoad_outside (s : State) {origin b : Word} {bytes : List Byte}
    (hb : bytes.length ≤ (b - origin).toNat) : (s.hostLoad origin bytes).read b = s.read b := by
  induction bytes generalizing s origin with
  | nil => rfl
  | cons v rest ih =>
    rw [List.length_cons] at hb
    have hne : b ≠ origin := by
      rintro rfl
      simp at hb
    have hrest : rest.length ≤ (b - (origin + 1)).toNat := by bv_omega
    rw [State.hostLoad_cons, ih _ hrest, State.read_write_ne s v hne]

/-- The load of at most 65536 bytes stores each byte at its place: no later one comes back to it. -/
theorem State.read_hostLoad_at (s : State) (origin : Word) {bytes : List Byte} {k : Nat} {v : Byte}
    (hlen : bytes.length ≤ 65536) (hk : bytes[k]? = some v) :
    (s.hostLoad origin bytes).read (origin + BitVec.ofNat 16 k) = v := by
  induction bytes generalizing s origin k with
  | nil => cases hk
  | cons w rest ih =>
    rw [List.length_cons] at hlen
    rw [State.hostLoad_cons]
    cases k with
    | zero =>
      obtain rfl : w = v := Option.some.inj hk
      have hfar : rest.length ≤ (origin - (origin + 1)).toNat := by bv_omega
      have hfirst : origin + BitVec.ofNat 16 0 = origin := add_zero origin
      rw [hfirst, State.read_hostLoad_outside _ hfar, State.read_write_same]
    | succ k =>
      have haddr : origin + BitVec.ofNat 16 (k + 1) = origin + 1 + BitVec.ofNat 16 k := by
        rw [Nat.add_comm, BitVec.ofNat_add, ← BitVec.add_assoc]
        rfl
      rw [haddr]
      exact ih _ _ (by omega) hk

/-- The launch state has the host's registers and flags (R250). -/
theorem State.launch_snapshot (r : Snapshot) (origin : Word) (image : List Byte) :
    (State.launch r origin image).snapshot = r :=
  State.hostLoad_snapshot _ origin image

/-! ## The 16-bit reads -/

/-- The zero-page pointer has both its bytes in page 0 (R35). -/
theorem State.readZp16_eq (s : State) (zp : Byte) :
    s.readZp16 zp = wordOf (s.read (BitVec.ofNat 16 ((zp.toNat + 1) % 256)))
      (s.read (BitVec.ofNat 16 zp.toNat)) := by
  rw [State.readZp16, zext16_add, zext16_eq_ofNat]
  rfl

/-- Adding a byte to a word wraps from 0xFFFF to 0x0000 (R80, R84). -/
theorem add_zext16 (w : Word) (v : Byte) :
    w + zext16 v = BitVec.ofNat 16 ((w.toNat + v.toNat) % 65536) := by
  rw [← wordOf_highByte_lowByte w, wordOf_add_zext16, toNat_wordOf]

/-! ## The stack -/

/-- The stack lies in page 1 (R14, D7). -/
theorem stackAddr_eq_ofNat (sp : Byte) : stackAddr sp = BitVec.ofNat 16 (0x0100 + sp.toNat) :=
  wordOf_eq_ofNat 0x01 sp

/-- A push stores its byte at the free slot, and no other. -/
theorem storesByte_push (s : State) (v : Byte) : StoresByte s (s.push v) (stackAddr s.sp) v := by
  refine ⟨?_, fun b hb => ?_⟩
  · rw [State.read_push, if_pos rfl]
  · rw [State.read_push, if_neg hb]

/-! ## The statements -/

/-- Settles O18: each byte is written at its place, and the bytes after it go on to the next ones. -/
theorem hostLoadStoresTheBytes : Obligations.HostLoadStoresTheBytes := by
  intro s origin bytes hlen
  exact ⟨State.hostLoad_inv origin bytes, s.hostLoad_snapshot origin bytes,
    fun k v hk => s.read_hostLoad_at origin hlen hk, fun b hb => s.read_hostLoad_outside hb,
    fun r => State.launch_snapshot r origin bytes⟩

/-- Settles O21: the next address is taken at the width of its read, and (zp),Y adds Y to the pointer. -/
theorem wordReadsWrapAsTheirWidthSays : Obligations.WordReadsWrapAsTheirWidthSays := by
  intro s a zp ptr ea
  have hptr : s.readZp16 zp = ptr := s.readZp16_eq zp
  have hea : effectiveAddress s (.indy zp) = ea := by
    rw [effectiveAddress, hptr, add_zext16]
  refine ⟨?_, hptr, resolve_mem_at nofun hea⟩
  rw [State.read16, Word.add_one_eq_ofNat]

/-- Settles O22: SP indexes page 1, and steps by one modulo 256. -/
theorem stackLivesInPageOne : Obligations.StackLivesInPageOne := by
  intro s v
  have hup : BitVec.ofNat 8 ((s.sp.toNat + 1) % 256) = s.sp + 1 := (Byte.add_one_eq_ofNat s.sp).symm
  have hslot : 0x0100 + (s.sp.toNat + 1) % 256 = 0x0100 + (s.sp + 1).toNat := by
    rw [BitVec.toNat_add]
    rfl
  rw [hslot, ← stackAddr_eq_ofNat, ← stackAddr_eq_ofNat, hup, ← Byte.sub_one_eq_ofNat]
  exact ⟨storesByte_push s v, rfl, rfl, s.pull_fst⟩

end Machine
end Sys2Proof
end

section
/-! Proofs of the statements about SBC in every form (R111) and BIT in both forms (R123). -/

namespace Sys2Proof

open Machine

/-! ## The encoded forms -/

/-- Every form of SBC adds the complement of its operand with carry (R111). -/
theorem Forms.sbc_updates (b1 b2 : Byte) :
    ∀ f ∈ Forms.sbc b1 b2, f.Updates b1 b2 fun m s => s.addWithCarry (m ^^^ 0xFF) := by
  simp only [Forms.sbc, List.forall_mem_cons, List.not_mem_nil, false_implies, implies_true, and_true]
  refine ⟨?_, ?_, ?_, ?_, ?_, ?_, ?_, ?_⟩ <;> exact EncodedForm.updates_mk rfl fun _ => rfl

/-- Both forms of BIT test A against the operand and copy two of its bits (R123). -/
theorem Forms.bit_updates (b1 b2 : Byte) :
    ∀ f ∈ Forms.bit b1 b2, f.Updates b1 b2 fun m s =>
      { s with flagZ := s.a &&& m == 0, flagN := bitOf m 7, flagV := bitOf m 6 } := by
  simp only [Forms.bit, List.forall_mem_cons, List.not_mem_nil, false_implies, implies_true, and_true]
  refine ⟨?_, ?_⟩ <;> exact EncodedForm.updates_mk rfl fun _ => rfl

namespace Machine

/-! ## Adding the complement is subtracting with borrow (R111) -/

/-- The number that SBC computes: A - M - (1 - C). -/
def State.borrowDiff (s : State) (m : Byte) : Int := s.a.toNat - m.toNat - (1 - s.flagC.toNat)

theorem toNat_xor_0xFF (m : Byte) : (m ^^^ 0xFF).toNat = 255 - m.toNat := by
  have hnot : m ^^^ 0xFF = ~~~m := BitVec.xor_allOnes
  rw [hnot, BitVec.toNat_not]

theorem msb_xor_0xFF (m : Byte) : (m ^^^ 0xFF).msb = !m.msb := by
  rw [BitVec.msb_xor]
  exact Bool.xor_true m.msb

/-- The sum with the complement is the difference with borrow, moved up by 256. -/
theorem State.sum_complement_eq (s : State) (m : Byte) :
    ((s.a.toNat + (m ^^^ 0xFF).toNat + s.flagC.toNat : Nat) : Int) = s.borrowDiff m + 256 := by
  have hm := m.isLt
  rw [toNat_xor_0xFF, State.borrowDiff]
  omega

theorem State.addWithCarry_complement_a (s : State) (m : Byte) :
    (s.addWithCarry (m ^^^ 0xFF)).a = BitVec.ofInt 8 (s.borrowDiff m) := by
  rw [State.addWithCarry_a, ← BitVec.ofInt_natCast, State.sum_complement_eq, BitVec.ofInt_add]
  exact BitVec.add_zero _

/-- There is no borrow exactly when the sum with the complement carries. -/
theorem State.carry_complement_iff (s : State) (m : Byte) :
    256 ≤ s.a.toNat + (m ^^^ 0xFF).toNat + s.flagC.toNat ↔ 0 ≤ s.borrowDiff m := by
  have hsum := s.sum_complement_eq m
  omega

/-- The whole subtraction (R111): A and four flags, each by the difference or by the signs. -/
theorem State.addWithCarry_complement_eq (s : State) (m : Byte) :
    s.addWithCarry (m ^^^ 0xFF) =
      { s with
        a := BitVec.ofInt 8 (s.borrowDiff m)
        flagC := decide (0 ≤ s.borrowDiff m)
        flagV := decide (s.a.msb ≠ m.msb ∧ (BitVec.ofInt 8 (s.borrowDiff m)).msb ≠ s.a.msb)
        flagN := (BitVec.ofInt 8 (s.borrowDiff m)).msb
        flagZ := decide (BitVec.ofInt 8 (s.borrowDiff m) = 0) } := by
  rw [State.addWithCarry_eq, State.addWithCarry_complement_a, msb_xor_0xFF]
  simp only [Bool.eq_not, State.carry_complement_iff]

/-! ## The test of BIT (R123) -/

/-- The conjunction of two bytes is zero exactly when no bit is set in both. -/
theorem and_beq_zero (v m : Byte) :
    (v &&& m == 0) = decide (∀ k : Fin 8, ¬ (v.getLsbD k = true ∧ m.getLsbD k = true)) := by
  rw [beq_zero_eq_decide, decide_eq_decide]
  constructor
  · intro hzero k hk
    have hbit : (v &&& m).getLsbD k = false := by rw [hzero]; exact BitVec.getLsbD_zero
    rw [BitVec.getLsbD_and, hk.1, hk.2] at hbit
    cases hbit
  · intro hnone
    apply BitVec.eq_of_getLsbD_eq
    intro k hk
    have hbit := hnone ⟨k, hk⟩
    rw [← Bool.and_eq_true, Bool.not_eq_true] at hbit
    rw [BitVec.getLsbD_and, hbit]
    exact BitVec.getLsbD_zero.symm

/-! ## The statements -/

/-- Settles O26: each form adds the complement of its operand, which is the subtraction with borrow. -/
theorem sbcSubtractsWithBorrow : Obligations.SbcSubtractsWithBorrow := by
  intro s b1 b2 f hf
  have h := Forms.sbc_updates b1 b2 f hf
  refine ⟨h.decodes, ?_⟩
  rw [h.exec_eq, State.addWithCarry_complement_eq]
  rfl

/-- Settles O30: both forms set Z from the conjunction of A and the operand, bit by bit. -/
theorem bitTestsMemoryAgainstA : Obligations.BitTestsMemoryAgainstA := by
  intro s b1 b2 f hf
  have h := Forms.bit_updates b1 b2 f hf
  refine ⟨h.decodes, ?_⟩
  rw [h.exec_eq, and_beq_zero]
  rfl

end Machine
end Sys2Proof
end

section
/-! Proofs of the statements about LSR, ROL, ROR in every form (R131 to R133), and that nine rotations of A and C
restore them. -/

namespace Sys2Proof

open Machine

/-! ## The encoded forms -/

/-- Every form of LSR shifts its operand right, and the old bit 0 leaves into C (R131). -/
theorem Forms.lsr_modifies (b1 b2 : Byte) :
    ∀ f ∈ Forms.lsr b1 b2, f.Modifies b1 b2 fun t v s => s.shiftTo t (v >>> 1) (bitOf v 0) := by
  simp only [Forms.lsr, List.forall_mem_cons, List.not_mem_nil, false_implies, implies_true, and_true]
  refine ⟨?_, ?_, ?_, ?_, ?_⟩ <;> exact EncodedForm.modifies_mk rfl fun _ => rfl

/-- Every form of ROL shifts its operand left with the old C entering bit 0 (R132). -/
theorem Forms.rol_modifies (b1 b2 : Byte) :
    ∀ f ∈ Forms.rol b1 b2, f.Modifies b1 b2 fun t v s =>
      s.shiftTo t (v <<< 1 ||| flagByte s.flagC 0) (bitOf v 7) := by
  simp only [Forms.rol, List.forall_mem_cons, List.not_mem_nil, false_implies, implies_true, and_true]
  refine ⟨?_, ?_, ?_, ?_, ?_⟩ <;> exact EncodedForm.modifies_mk rfl fun _ => rfl

/-- Every form of ROR shifts its operand right with the old C entering bit 7 (R133). -/
theorem Forms.ror_modifies (b1 b2 : Byte) :
    ∀ f ∈ Forms.ror b1 b2, f.Modifies b1 b2 fun t v s =>
      s.shiftTo t (v >>> 1 ||| flagByte s.flagC 7) (bitOf v 0) := by
  simp only [Forms.ror, List.forall_mem_cons, List.not_mem_nil, false_implies, implies_true, and_true]
  refine ⟨?_, ?_, ?_, ?_, ?_⟩ <;> exact EncodedForm.modifies_mk rfl fun _ => rfl

namespace Machine

/-! ## The shifted and the rotated value in the naturals -/

/-- Bit 0 is the remainder by two. -/
theorem bitOf_zero (v : Byte) : bitOf v 0 = decide (v.toNat % 2 = 1) :=
  Nat.testBit_zero v.toNat

/-- The right shift by one halves the value. -/
theorem ushiftRight_one_eq_ofNat (v : Byte) : v >>> 1 = BitVec.ofNat 8 (v.toNat / 2) := by
  apply BitVec.eq_of_toNat_eq
  rw [BitVec.toNat_ushiftRight, Nat.shiftRight_one, BitVec.toNat_ofNat, Nat.mod_eq_of_lt (by omega)]

theorem flagByte_eq_ofNat (f : Bool) (k : Nat) : flagByte f k = BitVec.ofNat 8 (f.toNat * 2 ^ k) := by
  apply BitVec.eq_of_toNat_eq
  simp [flagByte, Nat.shiftLeft_eq]

/-- The old C enters the bit 0 that the left shift freed, so it is added. -/
theorem shiftLeft_or_flagByte (v : Byte) (f : Bool) :
    v <<< 1 ||| flagByte f 0 = BitVec.ofNat 8 (v.toNat * 2 % 256 + f.toNat) := by
  have hfree : v <<< 1 &&& flagByte f 0 = 0#8 := by
    apply BitVec.eq_of_getLsbD_eq
    intro k hk
    rw [BitVec.getLsbD_and, BitVec.getLsbD_shiftLeft, getLsbD_flagByte f hk]
    by_cases h : k = 0 <;> simp [h]
  rw [← BitVec.add_eq_or_of_and_eq_zero _ _ hfree, shiftLeft_one_eq_ofNat, flagByte_eq_ofNat,
    ← BitVec.ofNat_add, pow_zero, Nat.mul_one]

/-- The old C enters the bit 7 that the right shift freed, so it is added with the weight 128. -/
theorem ushiftRight_or_flagByte (v : Byte) (f : Bool) :
    v >>> 1 ||| flagByte f 7 = BitVec.ofNat 8 (v.toNat / 2 + 128 * f.toNat) := by
  have hfree : v >>> 1 &&& flagByte f 7 = 0#8 := by
    apply BitVec.eq_of_getLsbD_eq
    intro k hk
    rw [BitVec.getLsbD_and, BitVec.getLsbD_ushiftRight, getLsbD_flagByte f hk]
    by_cases h : k = 7 <;> simp [h]
  rw [← BitVec.add_eq_or_of_and_eq_zero _ _ hfree, ushiftRight_one_eq_ofNat, flagByte_eq_ofNat,
    ← BitVec.ofNat_add, Nat.mul_comm f.toNat]
  rfl

theorem msb_ushiftRight_one (v : Byte) : (v >>> 1).msb = false := by
  simp [BitVec.msb_ushiftRight]

/-- The sign of the value rotated right is the old C. -/
theorem msb_ushiftRight_or_flagByte (v : Byte) (f : Bool) : (v >>> 1 ||| flagByte f 7).msb = f := by
  have hbit : (flagByte f 7).msb = f := by
    rw [← bitOf_seven, bitOf, getLsbD_flagByte f (by decide)]
    simp
  rw [BitVec.msb_or, msb_ushiftRight_one, hbit, Bool.false_or]

/-! ## A rotation moves the nine bits of C and A around -/

/-- The nine bits of C and A, C being bit 8. -/
def State.nineBits (s : State) : BitVec 9 := BitVec.cons s.flagC s.a

theorem State.getLsbD_nineBits (s : State) (k : Nat) :
    s.nineBits.getLsbD k = if k = 8 then s.flagC else s.a.getLsbD k :=
  BitVec.getLsbD_cons s.flagC s.a k

/-- The nine bits determine C and A. -/
theorem State.nineBits_inj {s t : State} (h : s.nineBits = t.nineBits) :
    s.a = t.a ∧ s.flagC = t.flagC := by
  constructor
  · simpa only [State.nineBits, BitVec.setWidth_cons] using congrArg (BitVec.setWidth 8) h
  · simpa only [State.nineBits, BitVec.msb_cons] using congrArg BitVec.msb h

/-- The state `t` has the nine bits of `s` moved around by `m` places. -/
def State.RotatedBy (s : State) (m : Nat) (t : State) : Prop :=
  ∀ k < 9, t.nineBits.getLsbD k = s.nineBits.getLsbD ((k + m) % 9)

theorem State.RotatedBy.refl (s : State) : s.RotatedBy 0 s := by
  intro k hk
  rw [Nat.add_zero, Nat.mod_eq_of_lt hk]

theorem State.RotatedBy.trans {s t u : State} {m n : Nat} (hst : s.RotatedBy m t)
    (htu : t.RotatedBy n u) : s.RotatedBy (m + n) u := by
  intro k hk
  rw [htu k hk, hst _ (Nat.mod_lt _ (by decide)), Nat.mod_add_mod, Nat.add_assoc, Nat.add_comm n]

/-- Moved around by nine places or a multiple of nine, the bits stand where they stood. -/
theorem State.RotatedBy.nineBits_eq {s t : State} {m : Nat} (h : s.RotatedBy (9 * m) t) :
    t.nineBits = s.nineBits := by
  apply BitVec.eq_of_getLsbD_eq
  intro k hk
  rw [h k hk, Nat.add_mul_mod_self_left, Nat.mod_eq_of_lt hk]

/-- An instruction that moves the bits by `m` places moves them by `n * m` when run `n` times. -/
theorem execAll_replicate_rotatedBy {i : Instr} {m : Nat}
    (hi : ∀ s, ∃ t, exec i s = .next t ∧ s.RotatedBy m t) (n : Nat) (s : State) :
    ∃ t, execAll (List.replicate n i) s = .next t ∧ s.RotatedBy (n * m) t := by
  induction n generalizing s with
  | zero => exact ⟨s, rfl, by rw [Nat.zero_mul]; exact .refl s⟩
  | succ n ih =>
    obtain ⟨t, ht, hst⟩ := hi s
    obtain ⟨u, hu, htu⟩ := ih t
    refine ⟨u, ?_, ?_⟩
    · rw [List.replicate_succ, execAll, ht]
      exact hu
    · rw [Nat.succ_mul, Nat.add_comm]
      exact hst.trans htu

theorem exec_rolAcc (s : State) :
    exec .rolAcc s =
      .next ((s.shiftTo .acc (s.a <<< 1 ||| flagByte s.flagC 0) (bitOf s.a 7)).setPc (s.pc + 1)) := rfl

theorem exec_rorAcc (s : State) :
    exec .rorAcc s =
      .next ((s.shiftTo .acc (s.a >>> 1 ||| flagByte s.flagC 7) (bitOf s.a 0)).setPc (s.pc + 1)) := rfl

@[simp] theorem State.shiftTo_acc_a (s : State) (res : Byte) (c : Bool) : (s.shiftTo .acc res c).a = res := rfl

/-- ROL moves each bit to the next place, which is back by eight of nine. -/
theorem exec_rolAcc_rotatedBy (s : State) : ∃ t, exec .rolAcc s = .next t ∧ s.RotatedBy 8 t := by
  refine ⟨_, exec_rolAcc s, fun k hk => ?_⟩
  simp only [State.getLsbD_nineBits, State.setPc_flagC, State.setPc_a, State.shiftTo_flagC,
    State.shiftTo_acc_a, BitVec.getLsbD_or, BitVec.getLsbD_shiftLeft]
  interval_cases k <;> simp [getLsbD_flagByte, bitOf, -BitVec.getLsbD_eq_getElem]

/-- ROR moves each bit to the place before. -/
theorem exec_rorAcc_rotatedBy (s : State) : ∃ t, exec .rorAcc s = .next t ∧ s.RotatedBy 1 t := by
  refine ⟨_, exec_rorAcc s, fun k hk => ?_⟩
  simp only [State.getLsbD_nineBits, State.setPc_flagC, State.setPc_a, State.shiftTo_flagC,
    State.shiftTo_acc_a, BitVec.getLsbD_or, BitVec.getLsbD_ushiftRight]
  interval_cases k <;> simp [getLsbD_flagByte, bitOf, -BitVec.getLsbD_eq_getElem]

/-! ## The statements -/

/-- Settles O32: each form ends in the shifts' common write-back, of the halved value and the old bit 0. -/
theorem lsrShiftsRight : Obligations.LsrShiftsRight := by
  intro s b1 b2 f hf v res
  have h := Forms.lsr_modifies b1 b2 f hf
  have hres : v >>> 1 = res := ushiftRight_one_eq_ofNat v
  refine ⟨h.decodes, _, h.exec_eq s, ?_⟩
  rw [← hres, ← bitOf_zero, ← msb_ushiftRight_one v]
  exact writesBack_shiftTo s f.operand (v >>> 1) (bitOf v 0) (s.pc + f.length)

/-- Settles O33: the same end, of the doubled value with the old C added and the old bit 7. -/
theorem rolRotatesLeftThroughCarry : Obligations.RolRotatesLeftThroughCarry := by
  intro s b1 b2 f hf v res
  have h := Forms.rol_modifies b1 b2 f hf
  have hres : v <<< 1 ||| flagByte s.flagC 0 = res := shiftLeft_or_flagByte v s.flagC
  refine ⟨h.decodes, _, h.exec_eq s, ?_⟩
  rw [← hres, ← bitOf_seven v]
  exact writesBack_shiftTo s f.operand (v <<< 1 ||| flagByte s.flagC 0) (bitOf v 7) (s.pc + f.length)

/-- Settles O34: the same end, of the halved value with the old C as its bit 7, and the old bit 0. -/
theorem rorRotatesRightThroughCarry : Obligations.RorRotatesRightThroughCarry := by
  intro s b1 b2 f hf v res
  have h := Forms.ror_modifies b1 b2 f hf
  have hres : v >>> 1 ||| flagByte s.flagC 7 = res := ushiftRight_or_flagByte v s.flagC
  have hback := writesBack_shiftTo s f.operand (v >>> 1 ||| flagByte s.flagC 7) (bitOf v 0)
    (s.pc + f.length)
  rw [msb_ushiftRight_or_flagByte] at hback
  refine ⟨h.decodes, _, h.exec_eq s, ?_⟩
  rw [← hres, ← bitOf_zero]
  exact hback

/-- Settles O35: nine times the same number of places is a multiple of nine. -/
theorem nineRotationsRestore : Obligations.NineRotationsRestore := by
  intro s i hi
  obtain ⟨m, hm⟩ : ∃ m, ∀ s, ∃ t, exec i s = .next t ∧ s.RotatedBy m t := by
    simp only [List.mem_cons, List.not_mem_nil, or_false] at hi
    rcases hi with rfl | rfl
    · exact ⟨8, exec_rolAcc_rotatedBy⟩
    · exact ⟨1, exec_rorAcc_rotatedBy⟩
  obtain ⟨t, ht, hrot⟩ := execAll_replicate_rotatedBy hm 9 s
  exact ⟨t, ht, State.nineBits_inj hrot.nineBits_eq⟩

end Machine
end Sys2Proof
end

section
/-! Proofs of the statements about JSR and RTS, alone and one after the other (R151, R152), and the flag sets (R164
to R166). -/

namespace Sys2Proof

/-- A row of the format with two operand bytes (R52) decodes to its instruction with their word, low byte
first. -/
theorem decodeBytes_of_lookup_f3 {opc : Byte} {r : Row} {mk : Word → Instr} (hrow : lookup opc = some r)
    (hform : r.form = .f3 mk) (b1 b2 : Byte) : decodeBytes opc b1 b2 = some (mk (wordOf b2 b1)) := by
  refine decodeBytes_of_decode (rest := []) ?_
  rw [decode_of_lookup hrow, hform]
  rfl

/-! ## Steps of SP -/

theorem Byte.sub_one_sub_one (v : Byte) : v - 1 - 1 = v - 2 := by bv_omega

theorem Byte.add_one_add_one (v : Byte) : v + 1 + 1 = v + 2 := by bv_omega

theorem Byte.ne_sub_one (v : Byte) : v ≠ v - 1 := by bv_omega

namespace Machine

/-! ## The stack's words -/

/-- Different values of SP index different slots. -/
theorem stackAddr_ne {p q : Byte} (h : p ≠ q) : stackAddr p ≠ stackAddr q :=
  mt stackAddr_inj.mp h

@[simp] theorem State.read_setPc (s : State) (w b : Word) : (s.setPc w).read b = s.read b := rfl

/-- A 16-bit push leaves its high byte in the slot that was free (R33). -/
theorem State.read_pushWord_high (s : State) (w : Word) :
    (s.pushWord w).read (stackAddr s.sp) = highByte w := by
  rw [State.read_pushWord, if_neg (stackAddr_ne s.sp.ne_sub_one), if_pos rfl]

/-- A 16-bit push leaves its low byte in the next slot. -/
theorem State.read_pushWord_low (s : State) (w : Word) :
    (s.pushWord w).read (stackAddr (s.sp - 1)) = lowByte w := by
  rw [State.read_pushWord, if_pos rfl]

/-- A 16-bit push changes memory and SP alone. -/
theorem State.pushWord_frame (s : State) (w : Word) :
    { s.pushWord w with mem := s.mem } = { s with sp := s.sp - 2 } := by
  rw [← Byte.sub_one_sub_one]
  simp

/-- A pull does not depend on PC. -/
@[simp] theorem State.pullWord_setPc_fst (s : State) (w : Word) :
    (s.setPc w).pullWord.1 = s.pullWord.1 := by
  simp only [State.pullWord_fst, State.setPc_sp, State.read_setPc]

/-- A 16-bit pull changes SP alone. -/
theorem State.pullWord_snd_eq (s : State) : s.pullWord.2 = { s with sp := s.sp + 2 } := by
  rw [← Byte.add_one_add_one]
  rfl

/-- What a 16-bit push stored, the next pull gives back, wherever SP points. -/
@[simp] theorem State.pullWord_pushWord_fst (s : State) (w : Word) : (s.pushWord w).pullWord.1 = w := by
  rw [State.pullWord_fst, State.pushWord_sp, sub_add_cancel, sub_add_cancel, State.read_pushWord_high,
    State.read_pushWord_low, wordOf_highByte_lowByte]

/-! ## JSR and RTS -/

theorem exec_jsr (w : Word) (s : State) :
    exec (.jsr w) s = .next ((s.pushWord (s.pc + 2)).setPc w) := rfl

theorem exec_rts (s : State) : exec .rts s = .next (s.pullWord.2.setPc (s.pullWord.1 + 1)) := rfl

@[simp] theorem execAll_nil (s : State) : execAll [] s = .next s := rfl

theorem execAll_cons {i : Instr} {s t : State} (h : exec i s = .next t) (rest : List Instr) :
    execAll (i :: rest) s = execAll rest t := by
  rw [execAll, h]

/-- RTS after JSR pulls the address of the JSR's last byte and goes on after it. -/
theorem execAll_jsr_rts (w : Word) (s : State) :
    execAll [.jsr w, .rts] s =
      .next (((s.pushWord (s.pc + 2)).setPc w).pullWord.2.setPc (s.pc + 2 + 1)) := by
  rw [execAll_cons (exec_jsr w s), execAll_cons (exec_rts _), execAll_nil, State.pullWord_setPc_fst,
    State.pullWord_pushWord_fst]

/-! ## The flag sets -/

theorem exec_sec (s : State) : exec .sec s = .next { s with flagC := true, pc := s.pc + 1 } :=
  runImplied_of_fallthrough (h := handleSec) rfl

theorem exec_sed (s : State) : exec .sed s = .next { s with flagD := true, pc := s.pc + 1 } :=
  runImplied_of_fallthrough (h := handleSed) rfl

theorem exec_sei (s : State) : exec .sei s = .next { s with flagI := true, pc := s.pc + 1 } :=
  runImplied_of_fallthrough (h := handleSei) rfl

/-! ## The statements -/

/-- Settles O38: JSR is a 16-bit push of PC + 2, and then the target. -/
theorem jsrPushesItsLastByteAddress : Obligations.JsrPushesItsLastByteAddress := by
  intro s b1 b2
  refine ⟨decodeBytes_of_lookup_f3 lookup_jsr rfl b1 b2, _, exec_jsr _ s, ?_, ?_, fun b hhigh hlow => ?_, ?_⟩
  · rw [State.read_setPc, State.read_pushWord_high]
  · rw [State.read_setPc, State.read_pushWord_low]
  · rw [State.read_setPc, State.read_pushWord, if_neg hlow, if_neg hhigh]
  · exact congrArg (State.setPc · (wordOf b2 b1)) (s.pushWord_frame (s.pc + 2))

/-- Settles O39: RTS is a 16-bit pull, and then the address after the word pulled. -/
theorem rtsReturnsAfterTheJsr : Obligations.RtsReturnsAfterTheJsr := by
  intro s b1 b2
  refine ⟨decodeBytes_of_lookup_f1 lookup_rts rfl b1 b2, ?_⟩
  rw [exec_rts, State.pullWord_snd_eq, State.pullWord_fst, Byte.add_one_add_one]
  rfl

/-- Settles O40: RTS pulls the word that JSR pushed, so SP and PC come back. -/
theorem jsrThenRtsComesBack : Obligations.JsrThenRtsComesBack := by
  intro s w
  refine ⟨_, execAll_jsr_rts w s, State.eq_iff_snapshot_mem.mpr ⟨?_, rfl⟩, fun b hb => ?_⟩
  · have hpc : s.pc + 2 + 1 = s.pc + 3 := by bv_omega
    rw [hpc]
    simp [State.snapshot]
  · rw [State.read_setPc, State.read_congr (State.pullWord_mem _), State.read_setPc,
      State.read_pushWord_outside s _ hb]

/-- Settles O42: the row of each opcode byte holds its instruction, whose handler sets the one flag. -/
theorem flagSetsSetOneFlag : Obligations.FlagSetsSetOneFlag := by
  intro s b1 b2
  refine ⟨⟨?_, exec_sec s⟩, ⟨?_, exec_sed s⟩, ⟨?_, exec_sei s⟩⟩
  · exact decodeBytes_of_lookup_f1 lookup_sec rfl b1 b2
  · exact decodeBytes_of_lookup_f1 lookup_sed rfl b1 b2
  · exact decodeBytes_of_lookup_f1 lookup_sei rfl b1 b2

end Machine
end Sys2Proof
end

section
/-! Proofs of the statements about the loads, the stores and the transfers (R170 to R181), and the increments and
decrements (R190 to R195). -/

namespace Sys2Proof

open Machine

/-! ## The encoded forms -/

/-- Every form of LDA loads A with its operand (R170). -/
theorem Forms.lda_updates (b1 b2 : Byte) :
    ∀ f ∈ Forms.lda b1 b2, f.Updates b1 b2 fun m s => s.loadA m := by
  simp only [Forms.lda, List.forall_mem_cons, List.not_mem_nil, false_implies, implies_true, and_true]
  refine ⟨?_, ?_, ?_, ?_, ?_, ?_, ?_, ?_⟩ <;> exact EncodedForm.updates_mk rfl fun _ => rfl

/-- Every form of LDX loads X with its operand (R171). -/
theorem Forms.ldx_updates (b1 b2 : Byte) :
    ∀ f ∈ Forms.ldx b1 b2, f.Updates b1 b2 fun m s => s.loadX m := by
  simp only [Forms.ldx, List.forall_mem_cons, List.not_mem_nil, false_implies, implies_true, and_true]
  refine ⟨?_, ?_, ?_, ?_, ?_⟩ <;> exact EncodedForm.updates_mk rfl fun _ => rfl

/-- Every form of LDY loads Y with its operand (R172). -/
theorem Forms.ldy_updates (b1 b2 : Byte) :
    ∀ f ∈ Forms.ldy b1 b2, f.Updates b1 b2 fun m s => s.loadY m := by
  simp only [Forms.ldy, List.forall_mem_cons, List.not_mem_nil, false_implies, implies_true, and_true]
  refine ⟨?_, ?_, ?_, ?_, ?_⟩ <;> exact EncodedForm.updates_mk rfl fun _ => rfl

/-- The form's opcode byte decodes to its instruction, which stores the register at the effective address of its
operand and advances by the form's length (R90, R94). -/
structure EncodedForm.Stores (f : EncodedForm MemMode) (b1 b2 : Byte) (reg : State → Byte) : Prop where
  decodes : decodeBytes f.opcode b1 b2 = some f.instr
  exec_eq : ∀ s : State,
    exec f.instr s = .next ((s.write (effectiveAddress s f.operand) (reg s)).setPc (s.pc + f.length))

/-- The two facts for a form given by its parts. -/
theorem EncodedForm.stores_mk {opc b1 b2 : Byte} {i : Instr} {m : MemMode} {n : Word}
    {reg : State → Byte} (hdecodes : decodeBytes opc b1 b2 = some i)
    (hexec : ∀ s, exec i s = .next ((s.write (effectiveAddress s m) (reg s)).setPc (s.pc + n))) :
    (⟨opc, i, m, n⟩ : EncodedForm MemMode).Stores b1 b2 reg :=
  ⟨hdecodes, hexec⟩

/-- Every form of STA stores A (R173). -/
theorem Forms.sta_stores (b1 b2 : Byte) : ∀ f ∈ Forms.sta b1 b2, f.Stores b1 b2 State.a := by
  simp only [Forms.sta, List.forall_mem_cons, List.not_mem_nil, false_implies, implies_true, and_true]
  refine ⟨?_, ?_, ?_, ?_, ?_, ?_, ?_⟩ <;> exact EncodedForm.stores_mk rfl fun _ => rfl

/-- Every form of STX stores X (R174). -/
theorem Forms.stx_stores (b1 b2 : Byte) : ∀ f ∈ Forms.stx b1 b2, f.Stores b1 b2 State.x := by
  simp only [Forms.stx, List.forall_mem_cons, List.not_mem_nil, false_implies, implies_true, and_true]
  refine ⟨?_, ?_, ?_⟩ <;> exact EncodedForm.stores_mk rfl fun _ => rfl

/-- Every form of STY stores Y (R175). -/
theorem Forms.sty_stores (b1 b2 : Byte) : ∀ f ∈ Forms.sty b1 b2, f.Stores b1 b2 State.y := by
  simp only [Forms.sty, List.forall_mem_cons, List.not_mem_nil, false_implies, implies_true, and_true]
  refine ⟨?_, ?_, ?_⟩ <;> exact EncodedForm.stores_mk rfl fun _ => rfl

/-- Every form of INC writes its operand plus one back (R190). -/
theorem Forms.inc_modifies (b1 b2 : Byte) :
    ∀ f ∈ Forms.inc b1 b2, f.Modifies b1 b2 fun t v s => (s.setNZ (v + 1)).writeBack t (v + 1) := by
  simp only [Forms.inc, List.forall_mem_cons, List.not_mem_nil, false_implies, implies_true, and_true]
  refine ⟨?_, ?_, ?_, ?_⟩ <;> exact EncodedForm.modifies_mk rfl fun _ => rfl

/-- Every form of DEC writes its operand minus one back (R191). -/
theorem Forms.dec_modifies (b1 b2 : Byte) :
    ∀ f ∈ Forms.dec b1 b2, f.Modifies b1 b2 fun t v s => (s.setNZ (v - 1)).writeBack t (v - 1) := by
  simp only [Forms.dec, List.forall_mem_cons, List.not_mem_nil, false_implies, implies_true, and_true]
  refine ⟨?_, ?_, ?_, ?_⟩ <;> exact EncodedForm.modifies_mk rfl fun _ => rfl

/-! ## The store and the write-back in the terms of the statements -/

/-- A store, and then Advance: the one byte at the address. -/
theorem storesByte_write (s : State) (ea : Word) (v : Byte) (w : Word) :
    StoresByte s ((s.write ea v).setPc w) ea v := by
  refine ⟨?_, fun b hb => ?_⟩
  · rw [State.read_setPc, State.read_write_same]
  · rw [State.read_setPc, State.read_write_ne s v hb]

/-- The common end of INC and DEC (R190, R191), and then Advance: N and Z, and the result written back. -/
theorem writesBack_setNZ (s : State) (o : Place) (res : Byte) (w : Word) :
    WritesBack s (((s.setNZ res).writeBack (placeTarget s o) res).setPc w)
      { s with flagN := res.msb, flagZ := decide (res = 0), pc := w } o res := by
  rw [← bitOf_seven, ← beq_zero_eq_decide]
  exact writesBack_writeBack (u := s.setNZ res) o res w rfl

namespace Machine

/-! ## The loads of a register -/

/-- The sign bit is set from 128 on. -/
theorem msb_eq_decide_le (v : Byte) : v.msb = decide (128 ≤ v.toNat) := BitVec.msb_eq_decide v

/-- The whole load of X (R7): the register, N and Z, and nothing else. -/
theorem State.loadX_eq (s : State) (v : Byte) :
    s.loadX v = { s with x := v, flagN := v.msb, flagZ := decide (v = 0) } := by
  rw [← bitOf_seven, ← beq_zero_eq_decide]
  rfl

/-- The whole load of Y (R7): the register, N and Z, and nothing else. -/
theorem State.loadY_eq (s : State) (v : Byte) :
    s.loadY v = { s with y := v, flagN := v.msb, flagZ := decide (v = 0) } := by
  rw [← bitOf_seven, ← beq_zero_eq_decide]
  rfl

/-! ## The one-byte instructions that load a register -/

theorem exec_tax (s : State) : exec .tax s = .next ((s.loadX s.a).setPc (s.pc + 1)) :=
  runImplied_of_fallthrough (h := handleTax) rfl

theorem exec_tay (s : State) : exec .tay s = .next ((s.loadY s.a).setPc (s.pc + 1)) :=
  runImplied_of_fallthrough (h := handleTay) rfl

theorem exec_txa (s : State) : exec .txa s = .next ((s.loadA s.x).setPc (s.pc + 1)) :=
  runImplied_of_fallthrough (h := handleTxa) rfl

theorem exec_tya (s : State) : exec .tya s = .next ((s.loadA s.y).setPc (s.pc + 1)) :=
  runImplied_of_fallthrough (h := handleTya) rfl

theorem exec_tsx (s : State) : exec .tsx s = .next ((s.loadX s.sp).setPc (s.pc + 1)) :=
  runImplied_of_fallthrough (h := handleTsx) rfl

theorem exec_txs (s : State) : exec .txs s = .next { s with sp := s.x, pc := s.pc + 1 } :=
  runImplied_of_fallthrough (h := handleTxs) rfl

theorem exec_inx (s : State) : exec .inx s = .next ((s.loadX (s.x + 1)).setPc (s.pc + 1)) :=
  runImplied_of_fallthrough (h := handleInx) rfl

theorem exec_iny (s : State) : exec .iny s = .next ((s.loadY (s.y + 1)).setPc (s.pc + 1)) :=
  runImplied_of_fallthrough (h := handleIny) rfl

theorem exec_dex (s : State) : exec .dex s = .next ((s.loadX (s.x - 1)).setPc (s.pc + 1)) :=
  runImplied_of_fallthrough (h := handleDex) rfl

theorem exec_dey (s : State) : exec .dey s = .next ((s.loadY (s.y - 1)).setPc (s.pc + 1)) :=
  runImplied_of_fallthrough (h := handleDey) rfl

/-! ## The statements -/

/-- Settles O43: each form loads its register with the operand. -/
theorem loadsSetRegisterNegativeZero : Obligations.LoadsSetRegisterNegativeZero := by
  intro s b1 b2 done
  refine ⟨fun f hf => ?_, fun f hf => ?_, fun f hf => ?_⟩
  · have h := Forms.lda_updates b1 b2 f hf
    refine ⟨h.decodes, ?_⟩
    rw [h.exec_eq, State.loadA_eq, msb_eq_decide_le]
    rfl
  · have h := Forms.ldx_updates b1 b2 f hf
    refine ⟨h.decodes, ?_⟩
    rw [h.exec_eq, State.loadX_eq, msb_eq_decide_le]
    rfl
  · have h := Forms.ldy_updates b1 b2 f hf
    refine ⟨h.decodes, ?_⟩
    rw [h.exec_eq, State.loadY_eq, msb_eq_decide_le]
    rfl

/-- Settles O44: each form is one write of its register at the effective address. -/
theorem storesWriteOneByte : Obligations.StoresWriteOneByte := by
  intro s b1 b2 q hq f hf
  obtain ⟨reg, hreg, h⟩ : ∃ reg : State → Byte, q.1 = reg s ∧ f.Stores b1 b2 reg := by
    simp only [List.mem_cons, List.not_mem_nil, or_false] at hq
    rcases hq with rfl | rfl | rfl
    · exact ⟨State.a, rfl, Forms.sta_stores b1 b2 f hf⟩
    · exact ⟨State.x, rfl, Forms.stx_stores b1 b2 f hf⟩
    · exact ⟨State.y, rfl, Forms.sty_stores b1 b2 f hf⟩
  rw [hreg]
  exact ⟨h.decodes, _, h.exec_eq s, storesByte_write s _ _ _, rfl⟩

/-- Settles O45: each is the load of a register with another, but TXS, which sets SP alone. -/
theorem transfersCopyARegister : Obligations.TransfersCopyARegister := by
  intro s b1 b2 nz
  refine ⟨⟨?_, ?_⟩, ⟨?_, ?_⟩, ⟨?_, ?_⟩, ⟨?_, ?_⟩, ⟨?_, ?_⟩, ?_, exec_txs s⟩
  · exact decodeBytes_of_lookup_f1 lookup_tax rfl b1 b2
  · rw [exec_tax, State.loadX_eq, msb_eq_decide_le]; rfl
  · exact decodeBytes_of_lookup_f1 lookup_tay rfl b1 b2
  · rw [exec_tay, State.loadY_eq, msb_eq_decide_le]; rfl
  · exact decodeBytes_of_lookup_f1 lookup_txa rfl b1 b2
  · rw [exec_txa, State.loadA_eq, msb_eq_decide_le]; rfl
  · exact decodeBytes_of_lookup_f1 lookup_tya rfl b1 b2
  · rw [exec_tya, State.loadA_eq, msb_eq_decide_le]; rfl
  · exact decodeBytes_of_lookup_f1 lookup_tsx rfl b1 b2
  · rw [exec_tsx, State.loadX_eq, msb_eq_decide_le]; rfl
  · exact decodeBytes_of_lookup_f1 lookup_txs rfl b1 b2

/-- Settles O46: each form ends in the write-back of its operand plus or minus one, which adds 1 or 255 modulo
256. -/
theorem memoryIncrementsAndDecrementsWrap : Obligations.MemoryIncrementsAndDecrementsWrap := by
  intro s b1 b2 q hq f hf res
  obtain ⟨next, hnext, h⟩ : ∃ next : Byte → Byte,
      (∀ v, next v = BitVec.ofNat 8 ((v.toNat + q.1) % 256)) ∧
        f.Modifies b1 b2 fun t v s => (s.setNZ (next v)).writeBack t (next v) := by
    simp only [List.mem_cons, List.not_mem_nil, or_false] at hq
    rcases hq with rfl | rfl
    · exact ⟨(· + 1), Byte.add_one_eq_ofNat, Forms.inc_modifies b1 b2 f hf⟩
    · exact ⟨(· - 1), Byte.sub_one_eq_ofNat, Forms.dec_modifies b1 b2 f hf⟩
  have hres : next (placeVal s f.operand) = res := hnext _
  refine ⟨h.decodes, _, h.exec_eq s, ?_⟩
  rw [hres]
  exact writesBack_setNZ s f.operand res (s.pc + f.length)

/-- Settles O47: each is the load of an index register with itself plus or minus one. -/
theorem indexIncrementsAndDecrementsWrap : Obligations.IndexIncrementsAndDecrementsWrap := by
  intro s b1 b2 nz up down
  have hup (v : Byte) : v + 1 = up v := v.add_one_eq_ofNat
  have hdown (v : Byte) : v - 1 = down v := v.sub_one_eq_ofNat
  refine ⟨⟨?_, ?_⟩, ⟨?_, ?_⟩, ⟨?_, ?_⟩, ?_, ?_⟩
  · exact decodeBytes_of_lookup_f1 lookup_inx rfl b1 b2
  · rw [exec_inx, hup, State.loadX_eq]; rfl
  · exact decodeBytes_of_lookup_f1 lookup_iny rfl b1 b2
  · rw [exec_iny, hup, State.loadY_eq]; rfl
  · exact decodeBytes_of_lookup_f1 lookup_dex rfl b1 b2
  · rw [exec_dex, hdown, State.loadX_eq]; rfl
  · exact decodeBytes_of_lookup_f1 lookup_dey rfl b1 b2
  · rw [exec_dey, hdown, State.loadY_eq]; rfl

end Machine
end Sys2Proof
end

section
/-! Proofs of the statements about the status byte (R24), the pushes and pulls (R200 to R203), and the software trap
with its return (R204, R205, R229, R230). -/

namespace Sys2Proof

/-! ## Steps of SP by three bytes -/

theorem Byte.sub_one_sub_one_sub_one (v : Byte) : v - 1 - 1 - 1 = v - 3 := by bv_omega

theorem Byte.add_one_add_one_add_one (v : Byte) : v + 1 + 1 + 1 = v + 3 := by bv_omega

theorem Byte.ne_sub_two (v : Byte) : v ≠ v - 2 := by bv_omega

theorem Byte.sub_one_ne_sub_two (v : Byte) : v - 1 ≠ v - 2 := by bv_omega

namespace Machine

/-! ## The status byte -/

/-- The status byte as a number: each flag with its weight, and bits 5 and 4 (R24). -/
theorem State.toNat_packP (s : State) :
    s.packP.toNat = 128 * s.flagN.toNat + 64 * s.flagV.toNat + 32 + 16 + 8 * s.flagD.toNat +
      4 * s.flagI.toNat + 2 * s.flagZ.toNat + s.flagC.toNat := by
  have hflags : ∀ n v d i z c : Bool,
      (flagByte n 7 ||| flagByte v 6 ||| flagByte true 5 ||| flagByte true 4 ||| flagByte d 3 |||
        flagByte i 2 ||| flagByte z 1 ||| flagByte c 0).toNat =
      128 * n.toNat + 64 * v.toNat + 32 + 16 + 8 * d.toNat + 4 * i.toNat + 2 * z.toNat + c.toNat := by
    decide
  exact hflags _ _ _ _ _ _

/-- Packing what was unpacked gives the byte back with bits 5 and 4 set. -/
theorem State.packP_unpackP (s : State) (p : Byte) : (s.unpackP p).packP = p ||| 0x30 := by
  apply BitVec.eq_of_getLsbD_eq
  intro k hk
  have hbit := (s.unpackP p).bitOf_packP hk
  rw [bitOf] at hbit
  rw [hbit, BitVec.getLsbD_or]
  interval_cases k <;> simp [bitOf, -BitVec.getLsbD_eq_getElem]

/-! ## The pushes and the pulls -/

theorem exec_pha (s : State) : exec .pha s = .next ((s.push s.a).setPc (s.pc + 1)) :=
  runImplied_of_fallthrough (h := handlePha) rfl

theorem exec_php (s : State) : exec .php s = .next ((s.push s.packP).setPc (s.pc + 1)) :=
  runImplied_of_fallthrough (h := handlePhp) rfl

theorem exec_pla (s : State) : exec .pla s = .next ((s.pull.2.loadA s.pull.1).setPc (s.pc + 1)) :=
  runImplied_of_fallthrough (h := handlePla) rfl

theorem exec_plp (s : State) : exec .plp s = .next ((s.pull.2.unpackP s.pull.1).setPc (s.pc + 1)) :=
  runImplied_of_fallthrough (h := handlePlp) rfl

/-! ## The software trap and its return -/

theorem exec_brk (s : State) : exec .brk s = .next s.trapEntry := rfl

theorem exec_rti (s : State) : exec .rti s = .next s.trapReturn := rfl

/-- The trap changes memory, SP, I, B and PC alone (R229). -/
theorem State.trapEntry_frame (s : State) :
    { s.trapEntry with mem := s.mem } =
      { s with sp := s.sp - 3, flagI := true, flagB := true, pc := s.read16 brkVector } := by
  rw [← Byte.sub_one_sub_one_sub_one, ← State.trapEntry_pc]
  simp

/-- The whole return (R230): six flags from the first byte pulled, and PC from the next two. -/
theorem State.trapReturn_eq (s : State) :
    s.trapReturn = { s.unpackP (s.read (stackAddr (s.sp + 1))) with
      sp := s.sp + 3
      pc := wordOf (s.read (stackAddr (s.sp + 3))) (s.read (stackAddr (s.sp + 2))) } := by
  rw [← Byte.add_one_add_one_add_one, ← Byte.add_one_add_one]
  rfl

/-- The return from the trap just taken pulls the status byte and the address that the trap pushed, so six flags,
SP and PC come back; B stays true (R19). -/
theorem State.trapReturn_trapEntry_frame (s : State) :
    { s.trapEntry.trapReturn with mem := s.mem } = { s with pc := s.pc + 2, flagB := true } := by
  have hlow : stackAddr (s.sp - 1) ≠ stackAddr (s.sp - 1 - 1) := stackAddr_ne (s.sp - 1).ne_sub_one
  have hhigh : stackAddr s.sp ≠ stackAddr (s.sp - 1 - 1) :=
    stackAddr_ne (s.sp.sub_one_sub_one ▸ s.sp.ne_sub_two)
  have hpulled : s.trapEntry.pull.1 = s.packP := by
    rw [State.pull_fst, State.trapEntry_sp, sub_add_cancel, State.read_trapEntry, if_pos rfl]
  have hpc : s.trapEntry.trapReturn.pc = s.pc + 2 := by
    rw [State.trapReturn_pc, State.trapEntry_sp, sub_add_cancel, sub_add_cancel, sub_add_cancel,
      State.read_trapEntry, State.read_trapEntry, if_neg hlow, if_neg hhigh, if_pos rfl,
      if_neg (stackAddr_ne s.sp.ne_sub_one), if_pos rfl, wordOf_highByte_lowByte]
  simp [hpc, hpulled, State.bitOf_packP, -State.pull_fst]

theorem execAll_brk_rti (s : State) : execAll [.brk, .rti] s = .next s.trapEntry.trapReturn := by
  rw [execAll_cons (exec_brk s), execAll_cons (exec_rti _), execAll_nil]

/-! ## The statements -/

/-- Settles O48: the status byte's bits are the flags at their weights, and unpacking reads six of them. -/
theorem statusBytePacksTheFlags : Obligations.StatusBytePacksTheFlags := by
  intro s p
  exact ⟨s.toNat_packP, s.packP_unpackP p, rfl⟩

/-- Settles O49: each is one push, of A or of the status byte. -/
theorem pushesStoreOneStackByte : Obligations.PushesStoreOneStackByte := by
  intro s b1 b2 q hq
  obtain ⟨hdecodes, hexec⟩ : decodeBytes q.1 b1 b2 = some q.2.1 ∧
      exec q.2.1 s = .next ((s.push q.2.2).setPc (s.pc + 1)) := by
    simp only [List.mem_cons, List.not_mem_nil, or_false] at hq
    rcases hq with rfl | rfl
    · exact ⟨decodeBytes_of_lookup_f1 lookup_pha rfl b1 b2, exec_pha s⟩
    · exact ⟨decodeBytes_of_lookup_f1 lookup_php rfl b1 b2, exec_php s⟩
  exact ⟨hdecodes, _, hexec, storesByte_push s q.2.2, rfl⟩

/-- Settles O50: each is one pull, of A or of the six flags. -/
theorem pullsLoadOneStackByte : Obligations.PullsLoadOneStackByte := by
  intro s b1 b2 v
  refine ⟨⟨decodeBytes_of_lookup_f1 lookup_pla rfl b1 b2, ?_⟩,
    ⟨decodeBytes_of_lookup_f1 lookup_plp rfl b1 b2, ?_⟩⟩
  · rw [exec_pla, State.loadA_eq, State.pull_fst]
    rfl
  · rw [exec_plp, State.pull_fst]
    rfl

/-- Settles O51: BRK is the entry of the trap, whose three pushed bytes lie in three slots. -/
theorem brkTakesTheTrap : Obligations.BrkTakesTheTrap := by
  intro s b1 b2
  refine ⟨decodeBytes_of_lookup_f1 lookup_brk rfl b1 b2, _, exec_brk s, ?_, ?_, ?_,
    fun b hhigh hlow hstatus => ?_, s.trapEntry_frame⟩
  all_goals rw [State.read_trapEntry, Byte.sub_one_sub_one]
  · rw [if_neg (stackAddr_ne s.sp.ne_sub_two), if_neg (stackAddr_ne s.sp.ne_sub_one), if_pos rfl]
  · rw [if_neg (stackAddr_ne s.sp.sub_one_ne_sub_two), if_pos rfl]
  · rw [if_pos rfl]
  · rw [if_neg hstatus, if_neg hlow, if_neg hhigh]

/-- Settles O52: RTI is the return from the trap. -/
theorem rtiReturnsFromTheTrap : Obligations.RtiReturnsFromTheTrap := by
  intro s b1 b2 p
  refine ⟨decodeBytes_of_lookup_f1 lookup_rti rfl b1 b2, ?_⟩
  rw [exec_rti, State.trapReturn_eq]
  rfl

/-- Settles O53: the return pulls what the entry pushed, and the entry pushed in page 1. -/
theorem brkThenRtiComesBack : Obligations.BrkThenRtiComesBack := by
  intro s
  refine ⟨_, execAll_brk_rti s, s.trapReturn_trapEntry_frame, fun b hb => ?_⟩
  rw [State.read_congr (State.trapReturn_mem _), State.read_trapEntry_outside s hb]

end Machine
end Sys2Proof
end

section
/-! Proofs of the statements about the whole machine: which instructions can change a flag or a register (R11, R12,
R16 to R23), and that none reads B (R19) and none but PHP and BRK reads D or I (R20, R21). -/

namespace Sys2Proof.Machine

/-! ## What an instruction keeps -/

/-- The instruction `i` keeps the component that `part` reads of a state. -/
def Keeps {α : Type} (i : Instr) (part : State → α) : Prop :=
  ∀ s t : State, exec i s = .next t → part t = part s

/-- What the handler keeps the instruction keeps, unless it is PC: Advance writes nothing else (R94). -/
theorem Keeps.of_handled {α : Type} {i : Instr} {part : State → α}
    (hpc : ∀ s w, part (s.setPc w) = part s)
    (hpart : ∀ h, Handled i h → ∀ s, part (h s).state = part s) : Keeps i part := by
  intro s t he
  obtain ⟨h, hh, hadv⟩ := exec_eq_next he
  obtain ⟨w, rfl⟩ := HandlerResult.state_of_advance hadv
  rw [hpc, hpart h hh]

/-- A branch keeps every component but PC. -/
theorem branch_state_part {α : Type} (part : State → α) (hpc : ∀ s w, part (s.setPc w) = part s)
    (c : Bool) (d : Byte) (s : State) : part (branch c d s).state = part s := by
  obtain ⟨w, hw⟩ := branch_state c d s
  rw [hw, hpc]

/-! ## The flags -/

/-- The instructions that may change N or Z (R17, R22). -/
def negativeZeroMnemonics : List Mnemonic :=
  [.adc, .sbc, .and, .ora, .eor, .asl, .lsr, .rol, .ror, .cmp, .cpx, .cpy, .lda, .ldx, .ldy, .tax, .tay,
    .txa, .tya, .tsx, .inc, .dec, .inx, .iny, .dex, .dey, .pla, .bit, .plp, .rti]

/-- The instructions that may change C (R23). -/
def carryMnemonics : List Mnemonic :=
  [.adc, .asl, .cmp, .cpx, .cpy, .clc, .sbc, .lsr, .rol, .ror, .sec, .plp, .rti]

theorem keeps_flagN_flagZ {i : Instr} (hmn : i.mnemonic ∉ negativeZeroMnemonics) :
    Keeps i fun s => (s.flagN, s.flagZ) := by
  refine .of_handled (fun _ _ => rfl) fun h hh s => ?_
  cases hh with
  | adc o op mn | sbc o op mn | and o op mn | ora o op mn | eor o op mn | asl o op mn | lsr o op mn
  | rol o op mn | ror o op mn | cmp o op mn | cpx o op mn | cpy o op mn | lda o op mn | ldx o op mn
  | ldy o op mn | tax op mn | tay op mn | txa op mn | tya op mn | tsx op mn | inc o op mn | dec o op mn
  | inx op mn | iny op mn | dex op mn | dey op mn | pla op mn | bit o op mn | plp op mn | rti op mn =>
    exact absurd (by rw [mn]; decide) hmn
  | bcc d | bcs d | beq d | bne d | bmi d | bpl d | bvc d | bvs d =>
    exact branch_state_part (fun s => (s.flagN, s.flagZ)) (fun _ _ => rfl) _ d s
  | brk => exact congrArg₂ Prod.mk s.trapEntry_flagN s.trapEntry_flagZ
  | _ => rfl

theorem keeps_flagV {i : Instr} (hmn : i.mnemonic ∉ [Mnemonic.adc, .sbc, .bit, .clv, .plp, .rti]) :
    Keeps i State.flagV := by
  refine .of_handled (fun _ _ => rfl) fun h hh s => ?_
  cases hh with
  | adc o op mn | sbc o op mn | bit o op mn | clv op mn | plp op mn | rti op mn =>
    exact absurd (by rw [mn]; decide) hmn
  | bcc d | bcs d | beq d | bne d | bmi d | bpl d | bvc d | bvs d =>
    exact branch_state_part State.flagV (fun _ _ => rfl) _ d s
  | asl | lsr | rol | ror => exact s.shiftTo_flagV _ _ _
  | inc | dec => exact State.writeBack_flagV _ _ _
  | brk => exact s.trapEntry_flagV
  | _ => rfl

theorem keeps_flagD {i : Instr} (hmn : i.mnemonic ∉ [Mnemonic.cld, .sed, .plp, .rti]) :
    Keeps i State.flagD := by
  refine .of_handled (fun _ _ => rfl) fun h hh s => ?_
  cases hh with
  | cld op mn | sed op mn | plp op mn | rti op mn => exact absurd (by rw [mn]; decide) hmn
  | bcc d | bcs d | beq d | bne d | bmi d | bpl d | bvc d | bvs d =>
    exact branch_state_part State.flagD (fun _ _ => rfl) _ d s
  | asl | lsr | rol | ror => exact s.shiftTo_flagD _ _ _
  | inc | dec => exact State.writeBack_flagD _ _ _
  | brk => exact s.trapEntry_flagD
  | _ => rfl

theorem keeps_flagI {i : Instr} (hmn : i.mnemonic ∉ [Mnemonic.cli, .sei, .brk, .plp, .rti]) :
    Keeps i State.flagI := by
  refine .of_handled (fun _ _ => rfl) fun h hh s => ?_
  cases hh with
  | cli op mn | sei op mn | brk op mn | plp op mn | rti op mn => exact absurd (by rw [mn]; decide) hmn
  | bcc d | bcs d | beq d | bne d | bmi d | bpl d | bvc d | bvs d =>
    exact branch_state_part State.flagI (fun _ _ => rfl) _ d s
  | asl | lsr | rol | ror => exact s.shiftTo_flagI _ _ _
  | inc | dec => exact State.writeBack_flagI _ _ _
  | _ => rfl

theorem keeps_flagC {i : Instr} (hmn : i.mnemonic ∉ carryMnemonics) : Keeps i State.flagC := by
  refine .of_handled (fun _ _ => rfl) fun h hh s => ?_
  cases hh with
  | adc o op mn | sbc o op mn | asl o op mn | lsr o op mn | rol o op mn | ror o op mn | cmp o op mn
  | cpx o op mn | cpy o op mn | clc op mn | sec op mn | plp op mn | rti op mn =>
    exact absurd (by rw [mn]; decide) hmn
  | bcc d | bcs d | beq d | bne d | bmi d | bpl d | bvc d | bvs d =>
    exact branch_state_part State.flagC (fun _ _ => rfl) _ d s
  | inc | dec => exact State.writeBack_flagC _ _ _
  | brk => exact s.trapEntry_flagC
  | _ => rfl

theorem keeps_flagB {i : Instr} (hmn : i.mnemonic ≠ .brk) : Keeps i State.flagB := by
  refine .of_handled (fun _ _ => rfl) fun h hh s => ?_
  cases hh with
  | brk op mn => exact absurd mn hmn
  | bcc d | bcs d | beq d | bne d | bmi d | bpl d | bvc d | bvs d =>
    exact branch_state_part State.flagB (fun _ _ => rfl) _ d s
  | asl | lsr | rol | ror => exact s.shiftTo_flagB _ _ _
  | inc | dec => exact State.writeBack_flagB _ _ _
  | _ => rfl

/-! ## The registers -/

theorem keeps_a {i : Instr}
    (hmn : i.mnemonic ∉ [Mnemonic.adc, .sbc, .and, .ora, .eor, .lda, .txa, .tya, .pla])
    (hmode : i.mode ≠ .acc) : Keeps i State.a := by
  refine .of_handled (fun _ _ => rfl) fun h hh s => ?_
  cases hh with
  | adc o op mn | sbc o op mn | and o op mn | ora o op mn | eor o op mn | lda o op mn | txa op mn
  | tya op mn | pla op mn => exact absurd (by rw [mn]; decide) hmn
  | bcc d | bcs d | beq d | bne d | bmi d | bpl d | bvc d | bvs d =>
    exact branch_state_part State.a (fun _ _ => rfl) _ d s
  | asl o op | lsr o op | rol o op | ror o op | inc o op | dec o op =>
    cases o with
    | acc => exact absurd (congrArg Operand.mode op) hmode
    | mem m => rfl
  | brk => exact s.trapEntry_a
  | _ => rfl

theorem keeps_x {i : Instr} (hmn : i.mnemonic ∉ [Mnemonic.ldx, .tax, .tsx, .inx, .dex]) :
    Keeps i State.x := by
  refine .of_handled (fun _ _ => rfl) fun h hh s => ?_
  cases hh with
  | ldx o op mn | tax op mn | tsx op mn | inx op mn | dex op mn => exact absurd (by rw [mn]; decide) hmn
  | bcc d | bcs d | beq d | bne d | bmi d | bpl d | bvc d | bvs d =>
    exact branch_state_part State.x (fun _ _ => rfl) _ d s
  | asl | lsr | rol | ror => exact s.shiftTo_x _ _ _
  | inc | dec => exact State.writeBack_x _ _ _
  | brk => exact s.trapEntry_x
  | _ => rfl

theorem keeps_y {i : Instr} (hmn : i.mnemonic ∉ [Mnemonic.ldy, .tay, .iny, .dey]) :
    Keeps i State.y := by
  refine .of_handled (fun _ _ => rfl) fun h hh s => ?_
  cases hh with
  | ldy o op mn | tay op mn | iny op mn | dey op mn => exact absurd (by rw [mn]; decide) hmn
  | bcc d | bcs d | beq d | bne d | bmi d | bpl d | bvc d | bvs d =>
    exact branch_state_part State.y (fun _ _ => rfl) _ d s
  | asl | lsr | rol | ror => exact s.shiftTo_y _ _ _
  | inc | dec => exact State.writeBack_y _ _ _
  | brk => exact s.trapEntry_y
  | _ => rfl

theorem keeps_sp {i : Instr}
    (hmn : i.mnemonic ∉ [Mnemonic.pha, .php, .pla, .plp, .jsr, .rts, .brk, .rti, .txs]) :
    Keeps i State.sp := by
  refine .of_handled (fun _ _ => rfl) fun h hh s => ?_
  cases hh with
  | pha op mn | php op mn | pla op mn | plp op mn | jsr m op mn | rts op mn | brk op mn | rti op mn
  | txs op mn => exact absurd (by rw [mn]; decide) hmn
  | bcc d | bcs d | beq d | bne d | bmi d | bpl d | bvc d | bvs d =>
    exact branch_state_part State.sp (fun _ _ => rfl) _ d s
  | asl | lsr | rol | ror => exact s.shiftTo_sp _ _ _
  | inc | dec => exact State.writeBack_sp _ _ _
  | _ => rfl

/-! ## States that differ in flags alone resolve an operand alike -/

/-- The two states have the same A, X, Y and memory, which is all that an operand is resolved from (R70). -/
structure State.SameOperands (s t : State) : Prop where
  a : t.a = s.a
  x : t.x = s.x
  y : t.y = s.y
  mem : t.mem = s.mem

namespace State.SameOperands

variable {s t : State} (h : s.SameOperands t)
include h

theorem effectiveAddress (m : MemMode) :
    Machine.effectiveAddress t m = Machine.effectiveAddress s m := by
  obtain ⟨-, hx, hy, hmem⟩ := h
  have hread : t.read = s.read := funext (State.read_congr hmem)
  cases m <;>
    simp only [Machine.effectiveAddress, State.readZp16, State.readPage16, hx, hy, hread]

theorem sourceVal (o : Source) : Machine.sourceVal t o = Machine.sourceVal s o := by
  cases o with
  | imm b => rfl
  | mem m => rw [Machine.sourceVal, h.effectiveAddress, State.read_congr h.mem, Machine.sourceVal]

theorem placeVal (o : Place) : Machine.placeVal t o = Machine.placeVal s o := by
  cases o with
  | acc => exact h.a
  | mem m => rw [Machine.placeVal, h.effectiveAddress, State.read_congr h.mem, Machine.placeVal]

theorem placeTarget (o : Place) : Machine.placeTarget t o = Machine.placeTarget s o := by
  cases o with
  | acc => rfl
  | mem m => rw [Machine.placeTarget, h.effectiveAddress, Machine.placeTarget]

end State.SameOperands

/-! ## Flags that no handler reads -/

/-- The result with its state changed by `g`, and the same signal. -/
def HandlerResult.map (g : State → State) : HandlerResult → HandlerResult
  | .fallthrough s => .fallthrough (g s)
  | .retarget s => .retarget (g s)

/-- The change `g` of a state neither reads nor writes PC. -/
structure LeavesPc (g : State → State) : Prop where
  pc : ∀ s, (g s).pc = s.pc
  setPc : ∀ s w, (g s).setPc w = g (s.setPc w)

/-- Such a change goes through a branch. -/
theorem branch_map {g : State → State} (hg : LeavesPc g) (c : Bool) (d : Byte) (s : State) :
    branch c d (g s) = (branch c d s).map g := by
  cases c with
  | false => rfl
  | true => rw [branch, if_pos rfl, hg.pc, hg.setPc]; rfl

/-- Such a change goes through Advance. -/
theorem HandlerResult.advance_map {g : State → State} (hg : LeavesPc g) {r : HandlerResult} {n : Nat}
    {t : State} (hr : r.advance n = .next t) : (r.map g).advance n = .next (g t) := by
  cases r with
  | fallthrough u =>
    cases hr
    rw [HandlerResult.map, HandlerResult.advance, hg.pc, hg.setPc]
  | retarget u =>
    cases hr
    rfl

/-- The state with another B. -/
def State.withB (s : State) (b : Bool) : State := { s with flagB := b }

/-- The state with another D and another I. -/
def State.withDI (s : State) (d e : Bool) : State := { s with flagD := d, flagI := e }

theorem leavesPc_withB (b : Bool) : LeavesPc (State.withB · b) := ⟨fun _ => rfl, fun _ _ => rfl⟩

theorem leavesPc_withDI (d e : Bool) : LeavesPc (State.withDI · d e) := ⟨fun _ => rfl, fun _ _ => rfl⟩

/-- The status byte does not hold B, so the trap pushes the same bytes, and it sets B itself (R19). -/
theorem State.trapEntry_withB (s : State) (b : Bool) : (s.withB b).trapEntry = s.trapEntry := rfl

/-- From a state with another B each handler does the same, and leaves another B at most. -/
theorem Handled.map_withB {i : Instr} {h : State → HandlerResult} (hh : Handled i h) (s : State)
    (b : Bool) : ∃ b', h (s.withB b) = (h s).map (State.withB · b') := by
  have hsame : s.SameOperands (s.withB b) := ⟨rfl, rfl, rfl, rfl⟩
  cases hh with
  | adc o | sbc o | cmp o | cpx o | cpy o | and o | ora o | eor o | bit o | lda o | ldx o | ldy o =>
    beta_reduce
    rw [hsame.sourceVal o]
    exact ⟨b, rfl⟩
  | asl o | lsr o | rol o | ror o | inc o | dec o =>
    beta_reduce
    rw [hsame.placeVal o, hsame.placeTarget o]
    cases placeTarget s o <;> exact ⟨b, rfl⟩
  | jmp m | jsr m | sta m | stx m | sty m =>
    beta_reduce
    rw [hsame.effectiveAddress m]
    exact ⟨b, rfl⟩
  | bcc d | bcs d | beq d | bne d | bmi d | bpl d | bvc d | bvs d =>
    exact ⟨b, branch_map (leavesPc_withB b) _ d s⟩
  | brk => exact ⟨true, congrArg HandlerResult.retarget (s.trapEntry_withB b)⟩
  | _ => exact ⟨b, rfl⟩

/-- From a state with another D and I each handler but PHP's and BRK's does the same, and leaves another D and I at
most. -/
theorem Handled.map_withDI {i : Instr} {h : State → HandlerResult} (hh : Handled i h)
    (hmn : i.mnemonic ∉ [Mnemonic.php, .brk]) (s : State) (d e : Bool) :
    ∃ d' e', h (s.withDI d e) = (h s).map (State.withDI · d' e') := by
  have hsame : s.SameOperands (s.withDI d e) := ⟨rfl, rfl, rfl, rfl⟩
  cases hh with
  | php op mn | brk op mn => exact absurd (by rw [mn]; decide) hmn
  | adc o | sbc o | cmp o | cpx o | cpy o | and o | ora o | eor o | bit o | lda o | ldx o | ldy o =>
    beta_reduce
    rw [hsame.sourceVal o]
    exact ⟨d, e, rfl⟩
  | asl o | lsr o | rol o | ror o | inc o | dec o =>
    beta_reduce
    rw [hsame.placeVal o, hsame.placeTarget o]
    cases placeTarget s o <;> exact ⟨d, e, rfl⟩
  | jmp m | jsr m | sta m | stx m | sty m =>
    beta_reduce
    rw [hsame.effectiveAddress m]
    exact ⟨d, e, rfl⟩
  | bcc c | bcs c | beq c | bne c | bmi c | bpl c | bvc c | bvs c =>
    exact ⟨d, e, branch_map (leavesPc_withDI d e) _ c s⟩
  | cld => exact ⟨false, e, rfl⟩
  | sed => exact ⟨true, e, rfl⟩
  | cli => exact ⟨d, false, rfl⟩
  | sei => exact ⟨d, true, rfl⟩
  | plp | rti => exact ⟨bitOf s.pull.1 3, bitOf s.pull.1 2, rfl⟩
  | _ => exact ⟨d, e, rfl⟩

/-- When the handler does on `u` what it does on `s` up to the change `g`, so does the instruction: Advance adds the
same length. -/
theorem exec_map {i : Instr} {s u t : State} {g : State → State} (hg : LeavesPc g)
    {h : State → HandlerResult} (he : ∀ s, exec i s = (h s).advance i.length)
    (hmap : h u = (h s).map g) (ht : exec i s = .next t) : exec i u = .next (g t) := by
  rw [he, hmap]
  rw [he] at ht
  exact HandlerResult.advance_map hg ht

theorem exec_withB {i : Instr} {s t : State} (ht : exec i s = .next t) (b : Bool) :
    ∃ b', exec i (s.withB b) = .next (t.withB b') := by
  obtain ⟨h, hh, he⟩ := exec_handled i
  obtain ⟨b', hmap⟩ := hh.map_withB s b
  exact ⟨b', exec_map (leavesPc_withB b') he hmap ht⟩

theorem exec_withDI {i : Instr} {s t : State} (hmn : i.mnemonic ∉ [Mnemonic.php, .brk])
    (ht : exec i s = .next t) (d e : Bool) : ∃ d' e', exec i (s.withDI d e) = .next (t.withDI d' e') := by
  obtain ⟨h, hh, he⟩ := exec_handled i
  obtain ⟨d', e', hmap⟩ := hh.map_withDI hmn s d e
  exact ⟨d', e', exec_map (leavesPc_withDI d' e') he hmap ht⟩

theorem eq_brk_of_mnemonic {i : Instr} (h : i.mnemonic = .brk) : i = .brk := by
  cases i with
  | brk => rfl
  | _ => cases h

/-- B after an instruction (R19): set by BRK, and kept by every other. -/
theorem exec_flagB {i : Instr} {s t : State} (ht : exec i s = .next t) :
    t.flagB = (s.flagB || decide (i.mnemonic = .brk)) := by
  by_cases hmn : i.mnemonic = .brk
  · obtain rfl := eq_brk_of_mnemonic hmn
    rw [exec_brk] at ht
    cases ht
    simp [hmn]
  · rw [keeps_flagB hmn s t ht, decide_eq_false hmn, Bool.or_false]

/-! ## The statements -/

/-- Settles O55: each flag is kept by every handler outside its list. -/
theorem flagsChangeOnlyByTheirInstructions : Obligations.FlagsChangeOnlyByTheirInstructions := by
  intro i s t ht
  exact ⟨fun hmn => Prod.mk.inj (keeps_flagN_flagZ hmn s t ht), fun hmn => keeps_flagV hmn s t ht,
    fun hmn => keeps_flagD hmn s t ht, fun hmn => keeps_flagI hmn s t ht,
    fun hmn => keeps_flagC hmn s t ht⟩

/-- Settles O56: B after follows from B before and the mnemonic, and a run with another B differs in B alone. -/
theorem breakFlagIsSetByBrkAndReadByNone : Obligations.BreakFlagIsSetByBrkAndReadByNone := by
  intro i s t ht
  refine ⟨exec_flagB ht, fun b => ?_⟩
  obtain ⟨b', hu⟩ := exec_withB ht b
  exact ⟨_, hu, rfl⟩

/-- Settles O57: a run with another D and I differs in D and I alone. -/
theorem decimalAndInterruptFlagsAreInert : Obligations.DecimalAndInterruptFlagsAreInert := by
  intro i s t ht hmn d e
  obtain ⟨d', e', hu⟩ := exec_withDI hmn ht d e
  exact ⟨_, hu, rfl⟩

/-- Settles O58: each register is kept by every handler outside its list, and A by a shift of memory too. -/
theorem registersChangeOnlyByTheirInstructions :
    Obligations.RegistersChangeOnlyByTheirInstructions := by
  intro i s t ht
  exact ⟨fun hmn hmode => keeps_a hmn hmode s t ht, fun hmn => keeps_x hmn s t ht,
    fun hmn => keeps_y hmn s t ht, fun hmn => keeps_sp hmn s t ht⟩

end Sys2Proof.Machine
end
